-- ==== Sys2Proof/Word.lean ====
section
/-! DEFINITION. The words the FX640 carries: bytes, station addresses and 32-bit check values. -/

namespace Sys2Proof

/-- One byte of a frame. -/
abbrev Byte := BitVec 8

/-- A station address, its first byte the most significant (spec/11_message_formats.md, R202). -/
abbrev Station := BitVec 48

/-- A 32-bit check value (R203), or a frame check (R16). -/
abbrev Check := BitVec 32

end Sys2Proof
end

