-- ==== Sys2Proof/Config.lean ====
section
/-! DEFINITION. The free values: what the spec leaves open and the part still produces. Each is a constant with no body,
applied to the counter `freeUsed` of State, so that no statement can lean on a value. -/

namespace Sys2Proof

/-- The operation number echoed in the response to a Control Request whose body is empty, so that it names none.
R184 has the response carry the request's operation number and gives no value here. Log 10. -/
opaque Config.freeOperation : Nat → Byte

/-- The destination of a frame to head office built while no head-office station is configured (R186, R204).
The spec gives no value. Log 11. -/
opaque Config.freeStation : Nat → Station

/-- A count of a Part Ack that answers while no Batch Record exists, so that there are no counts (R123). The spec gives no
value. Log 11. -/
opaque Config.freeCount : Nat → BitVec 16

end Sys2Proof
end

