-- ==== Sys2Proof/Syntax.lean ====
section
/-! DEFINITION. The commands of the FX640, one constructor for each row of spec/opcode_table.json, and the data they carry.
The table gives no operands; the ones here are what the row's rule needs to name (the port, the frame, the straps). -/

namespace Sys2Proof

/-- A label link: one base-station port (R103). -/
inductive LinkId
  | b0
  | b1
  deriving DecidableEq, Repr

/-- The 24 ports (R14). -/
inductive PortId
  | up
  | ctl
  | t (n : Fin 16)
  | a (n : Fin 4)
  | b (l : LinkId)
  deriving DecidableEq, Repr

/-- The source of a Control Request: the controller on CTL, or head office on UP (4.5, chapter 10). -/
inductive Source
  | controller
  | headOffice
  deriving DecidableEq, Repr

/-- A pair of Store Time: a day number and a millisecond of day (R1). -/
structure Moment where
  day : Nat
  ms : Nat
  deriving DecidableEq, Repr

/-- Tender Kind of a sale (R73). -/
inductive Tender
  | cash
  | card
  | voucher
  | mixed
  deriving DecidableEq, Repr

/-- One line entry of a journal record (R73). -/
structure Line where
  code : Nat
  quantity : Int
  unitPrice : Nat
  override : Bool
  overcharge : Bool
  blocked : Bool
  unknown : Bool
  deriving DecidableEq, Repr

/-- One journal record (R73). -/
structure SaleRecord where
  sequence : Nat
  till : Nat
  transaction : Nat
  stamp : Moment
  timeValid : Bool
  tender : Tender
  total : Int
  lines : List Line
  overchargeCount : Nat
  blockedCount : Nat
  deriving DecidableEq, Repr

/-- One held slot of the journal: the record and, beside it, its check value (R73). -/
structure Slot where
  record : SaleRecord
  check : Check
  deriving DecidableEq, Repr

/-- The commands: the rows of spec/opcode_table.json, in the table's order. -/
inductive Instr
  /-- POWER_ON (R196); the levels of STRAP3 to STRAP0. -/
  | powerOn (straps : BitVec 4)
  /-- RESET_ASSERT (R196); a journal slot the falling line left partly written, if any (R81, log 16). -/
  | resetAssert (torn : Option Slot)
  /-- PIN_RESET (R196): the release of RESET; the levels of the straps. -/
  | pinReset (straps : BitVec 4)
  /-- FULL_RESTART (R196); the levels of the straps, and a slot left partly written (log 16). -/
  | fullRestart (straps : BitVec 4) (torn : Option Slot)
  /-- SOFT_RESTART (R196); a slot left partly written (log 16). -/
  | softRestart (torn : Option Slot)
  /-- CONFIGURATION_LOAD_END (R197); whether the flash answered. -/
  | configurationLoadEnd (answered : Bool)
  /-- SAVE_END (R198); whether the flash took the whole writing. -/
  | saveEnd (written : Bool)
  /-- MILLISECOND_ADVANCE (R1). -/
  | millisecondAdvance
  /-- STORE_OPEN (R12). -/
  | storeOpen
  /-- STORE_CLOSE (R12). -/
  | storeClose
  /-- NIGHT_START (R143). -/
  | nightStart
  /-- NIGHT_END (R158). -/
  | nightEnd
  /-- CUTOVER (R9). -/
  | cutover
  /-- LINK_UP (R15). -/
  | linkUp (p : PortId)
  /-- LINK_DOWN (R15). -/
  | linkDown (p : PortId)
  /-- BEACON_IN_EDGE (R113). -/
  | beaconInEdge
  /-- FRAME_RECEIVED (R16): the whole frame, destination address to frame check. -/
  | frameReceived (p : PortId) (frame : List Byte)
  /-- TRANSMIT_START (R42). -/
  | transmitStart (p : PortId)
  /-- TRANSMIT_COMPLETE (R40). -/
  | transmitComplete (p : PortId)
  /-- WAITING_BLOCK_REOFFER (R149). -/
  | waitingBlockReoffer
  /-- ADDRESS_AGE_EXPIRY (R24). -/
  | addressAgeExpiry (a : Station)
  /-- SIGN_ON (R57), from a till port. -/
  | signOn (n : Fin 16)
  /-- SIGN_OFF (R59). -/
  | signOff (n : Fin 16)
  /-- PRICE_QUERY (R53). -/
  | priceQuery (n : Fin 16)
  /-- SALE_RECORD (R75). -/
  | saleRecord (n : Fin 16)
  /-- RECOVERY_SCAN_STEP (R86); what the slot reads as where it was damaged at rest (R87, log 16). -/
  | recoveryScanStep (damaged : Option Slot)
  /-- LABEL_REPORT (R115). -/
  | labelReport (l : LinkId)
  /-- STATION_STATUS (R106). -/
  | stationStatus (l : LinkId)
  /-- PACER_EXPIRY (R109). -/
  | pacerExpiry
  /-- LINK_SILENCE (R106). -/
  | linkSilence (l : LinkId)
  /-- LABEL_DEADLINE (R114), of the label at an index. -/
  | labelDeadline (index : Nat)
  /-- STALE_SCAN_STEP (R102). -/
  | staleScanStep (l : LinkId)
  /-- TRANSFER_OPEN (R145). -/
  | transferOpen
  /-- TRANSFER_ACCEPT (R147). -/
  | transferAccept
  /-- BLOCK_ACK (R150). -/
  | blockAck
  /-- BATCH_OPEN (R124). -/
  | batchOpen
  /-- BATCH_PART (R125). -/
  | batchPart
  /-- BATCH_CLOSE (R127). -/
  | batchClose
  /-- END_ACK (R156). -/
  | endAck
  /-- BLOCK_TIMER_EXPIRY (R151). -/
  | blockTimerExpiry
  /-- CUTOVER_SWEEP_STEP (R131). -/
  | cutoverSweepStep
  /-- WITHDRAW_SWEEP_STEP (R136). -/
  | withdrawSweepStep
  /-- CLOSING_SWEEP_STEP (R177). -/
  | closingSweepStep
  /-- PENDING_TIMEOUT (R169), of the entry at a slot. -/
  | pendingTimeout (slot : Nat)
  /-- GUEST_EXPIRY (R176). -/
  | guestExpiry (slot : Nat)
  /-- HOLD_UNTIL_REACHED (R176). -/
  | holdUntilReached (slot : Nat)
  /-- LOAD_TRANSACTION_LAPSE (R69). -/
  | loadTransactionLapse
  /-- SUPERVISION_TIMER_EXPIRY (R188). -/
  | supervisionTimerExpiry
  /-- OWED_NOTICES (R190). -/
  | owedNotices
  /-- READ_STATUS, operation 1 (R192). -/
  | readStatus (src : Source)
  /-- READ_COUNTERS, operation 2 (R193). -/
  | readCounters (src : Source)
  /-- CLEAR_EVENTS, operation 3 (R191). -/
  | clearEvents (src : Source)
  /-- CLEAR_RESET_CAUSES, operation 4 (R194). -/
  | clearResetCauses (src : Source)
  /-- SET_TIME, operation 16 (R4). -/
  | setTime (src : Source)
  /-- SET_SCHEDULE_SLOT, operation 17 (R8). -/
  | setScheduleSlot (src : Source)
  /-- SET_STORE_MODE, operation 18 (R12). -/
  | setStoreMode (src : Source)
  /-- ITEM_WRITE, operation 32 (R62). -/
  | itemWrite (src : Source)
  /-- ITEM_READ, operation 33 (R64). -/
  | itemRead (src : Source)
  /-- ITEM_DELETE, operation 34 (R65). -/
  | itemDelete (src : Source)
  /-- PRICE_CHANGE, operation 35 (R63). -/
  | priceChange (src : Source)
  /-- LOAD_BEGIN, operation 36 (R67). -/
  | loadBegin (src : Source)
  /-- LOAD_PART, operation 37 (R68). -/
  | loadPart (src : Source)
  /-- LOAD_END, operation 38 (R69). -/
  | loadEnd (src : Source)
  /-- LABEL_ATTACH, operation 48 (R94). -/
  | labelAttach (src : Source)
  /-- LABEL_DETACH, operation 49 (R95). -/
  | labelDetach (src : Source)
  /-- LABEL_REMOVE, operation 50 (R96). -/
  | labelRemove (src : Source)
  /-- LABEL_RESEND, operation 51 (R101). -/
  | labelResend (src : Source)
  /-- LABEL_READ, operation 52 (R97). -/
  | labelRead (src : Source)
  /-- LINK_CLEAR, operation 53 (R108). -/
  | linkClear (src : Source)
  /-- BEACON_ONCE, operation 54 (R110). -/
  | beaconOnce (src : Source)
  /-- GUEST_ADMIT, operation 64 (R170). -/
  | guestAdmit (src : Source)
  /-- GUEST_END, operation 65 (R171). -/
  | guestEnd (src : Source)
  /-- GUEST_BAR, operation 66 (R172). -/
  | guestBar (src : Source)
  /-- GUEST_UNBAR, operation 67 (R172). -/
  | guestUnbar (src : Source)
  /-- GUEST_READ, operation 68 (R173). -/
  | guestRead (src : Source)
  /-- ZONE_MATRIX_WRITE, operation 80 (R21). -/
  | zoneMatrixWrite (src : Source)
  /-- ADDRESS_FLUSH, operation 81 (R25). -/
  | addressFlush (src : Source)
  /-- QUEUE_SETTINGS_WRITE, operation 82 (R35, R186). -/
  | queueSettingsWrite (src : Source)
  /-- NIGHT_LINK_START, operation 96 (R143). -/
  | nightLinkStart (src : Source)
  /-- NIGHT_LINK_STOP, operation 97 (R157). -/
  | nightLinkStop (src : Source)
  /-- BATCH_WITHDRAW, operation 98 (R134). -/
  | batchWithdraw (src : Source)
  /-- CUTOVER_NOW, operation 99 (R130). -/
  | cutoverNow (src : Source)
  /-- HEARTBEAT, operation 112 (R187). -/
  | heartbeat (src : Source)
  /-- SAVE_CONFIGURATION, operation 113 (R198). -/
  | saveConfiguration (src : Source)
  /-- RESTART, operation 114 (R195). -/
  | restart (src : Source)
  /-- LOSS_OF_SUPPLY (R198). -/
  | lossOfSupply
  deriving DecidableEq, Repr

end Sys2Proof
end

