-- ==== Sys2Proof/WellFormed.lean ====
section
/-! DEFINITION. When a command is well formed: the operands that name a thing name one that can exist.
`exec` is total on every term; a command that fails a check names nothing the part holds. -/

namespace Sys2Proof

/-- A slot as a journal of this part can hold it: a sequence of 1 to 4,294,967,295 and up to 48 lines (R73). -/
def slotOk (s : Slot) : Bool :=
  decide (1 ≤ s.record.sequence) && decide (s.record.sequence ≤ 4294967295) && decide (s.record.lines.length ≤ 48)

/-- An absent slot, or one that can stand in the journal. -/
def tornOk : Option Slot → Bool
  | none => true
  | some s => slotOk s

/-- The well-formedness of a command. -/
def Instr.wf : Instr → Bool
  | .resetAssert torn => tornOk torn
  | .fullRestart _ torn => tornOk torn
  | .softRestart torn => tornOk torn
  | .recoveryScanStep damaged => tornOk damaged
  -- An Address Table entry is keyed by a unicast address (2.5, R202).
  | .addressAgeExpiry a => !a.getLsbD 40
  -- A label index is 0-8,191 (R92).
  | .labelDeadline index => decide (index < 8192)
  -- A guest slot is 0-1,023 (R165).
  | .pendingTimeout slot => decide (slot < 1024)
  | .guestExpiry slot => decide (slot < 1024)
  | .holdUntilReached slot => decide (slot < 1024)
  | .powerOn _ | .pinReset _ | .configurationLoadEnd _ | .saveEnd _ | .millisecondAdvance | .storeOpen | .storeClose
  | .nightStart | .nightEnd | .cutover | .linkUp _ | .linkDown _ | .beaconInEdge | .frameReceived _ _ | .transmitStart _
  | .transmitComplete _ | .waitingBlockReoffer | .signOn _ | .signOff _ | .priceQuery _ | .saleRecord _ | .labelReport _
  | .stationStatus _ | .pacerExpiry | .linkSilence _ | .staleScanStep _ | .transferOpen | .transferAccept | .blockAck
  | .batchOpen | .batchPart | .batchClose | .endAck | .blockTimerExpiry | .cutoverSweepStep | .withdrawSweepStep
  | .closingSweepStep | .loadTransactionLapse | .supervisionTimerExpiry | .owedNotices | .readStatus _ | .readCounters _
  | .clearEvents _ | .clearResetCauses _ | .setTime _ | .setScheduleSlot _ | .setStoreMode _ | .itemWrite _ | .itemRead _
  | .itemDelete _ | .priceChange _ | .loadBegin _ | .loadPart _ | .loadEnd _ | .labelAttach _ | .labelDetach _
  | .labelRemove _ | .labelResend _ | .labelRead _ | .linkClear _ | .beaconOnce _ | .guestAdmit _ | .guestEnd _
  | .guestBar _ | .guestUnbar _ | .guestRead _ | .zoneMatrixWrite _ | .addressFlush _ | .queueSettingsWrite _
  | .nightLinkStart _ | .nightLinkStop _ | .batchWithdraw _ | .cutoverNow _ | .heartbeat _ | .saveConfiguration _
  | .restart _ | .lossOfSupply => true

end Sys2Proof
end

