-- ==== Sys2Proof/Decode.lean ====
section
/-! DEFINITION. The commands that words spell: none. No row of spec/opcode_table.json gives a command any bits. -/

namespace Sys2Proof

/-- The command that a word of `nbits` bits spells by the table. The table gives no row any bits, so no word spells one. -/
def decodeTableWord (_nbits _w : Nat) : Option Instr := none

end Sys2Proof
end

