-- ==== Sys2Proof/Machine/Types.lean ====
section
/-! DEFINITION. The records of the blocks, plain data throughout: what each chapter's tables list. -/

namespace Sys2Proof.Machine

/-- A list of keys and records. In its canonical form (`Table.wf`, Tables.lean) the keys rise strictly. -/
abbrev Table (α : Type) := List (Nat × α)

/-! ### Time and the schedule (chapter 1) -/

/-- Store Time and Time Valid (R1, R3). -/
structure Clock where
  now : Moment
  valid : Bool
  deriving DecidableEq, Repr

/-- Store Mode (R12). -/
inductive StoreMode
  | trading
  | closed
  deriving DecidableEq, Repr

/-- A daily slot: its time of day and its Fired Day (1.3). -/
structure DailySlot where
  time : Option Nat
  firedDay : Option Nat
  deriving DecidableEq, Repr

/-- The Schedule Table (1.3, R9). -/
structure Schedule where
  storeOpen : DailySlot
  storeClose : DailySlot
  nightStart : DailySlot
  nightEnd : DailySlot
  cutover : Option Moment
  inhibit : Bool
  deriving DecidableEq, Repr

/-- The names of the four daily slots. -/
inductive DailyName
  | storeOpen
  | storeClose
  | nightStart
  | nightEnd
  deriving DecidableEq, Repr

/-! ### Ports and zones (chapter 2) -/

/-- The five zones, in the order of R20's table. -/
inductive Zone
  | uplink
  | controller
  | till
  | guest
  | label
  deriving DecidableEq, Repr

/-- The five output classes (2.9). -/
inductive OutClass
  | control
  | till
  | label
  | bulk
  | guest
  deriving DecidableEq, Repr

/-- One thing for each output class. -/
structure PerClass (α : Type) where
  control : α
  till : α
  label : α
  bulk : α
  guest : α
  deriving DecidableEq, Repr

/-- The deficit round robin record of a port (R43); `turnGuest` is Turn. -/
structure Drr where
  turnGuest : Bool
  granted : Bool
  bulkDeficit : Nat
  guestDeficit : Nat
  deriving DecidableEq, Repr

/-- A port: its Port Record (R14), its output queues (R41), the copy in transmission (R40) and its round robin record. -/
structure PortState where
  linkUp : Bool
  lengthErrors : Nat
  checkErrors : Nat
  loadingDiscards : Nat
  localFilters : Nat
  queues : PerClass (List Nat)
  sending : Option Nat
  drr : Drr
  deriving DecidableEq, Repr

/-- An entry of the Address Table, keyed by its station (R22, R24); `phase` counts the milliseconds since Age Remaining
was last set or last fell. -/
structure AddressEntry where
  port : PortId
  age : Nat
  phase : Nat
  deriving DecidableEq, Repr

/-- A branch message handed on to its serving block and not yet taken (R19): its arrival port and its frame. -/
structure Handed where
  port : PortId
  frame : List Byte
  deriving DecidableEq, Repr

/-! ### Frame buffer (chapter 3) -/

/-- Origin of a stored frame (R33). -/
inductive Origin
  | forwarded
  | generated
  deriving DecidableEq, Repr

/-- A Stored Frame record (R33); its Cells are worked out from its length. -/
structure StoredFrame where
  cls : OutClass
  copies : Nat
  origin : Origin
  bytes : List Byte
  deriving DecidableEq, Repr

/-- The Cell Pool and the uplink shaper's bucket (R33, R46); `nextRef` numbers the stored frames. -/
structure Pool where
  frames : Table StoredFrame
  nextRef : Nat
  inUse : PerClass Nat
  bucket : Nat
  deriving DecidableEq, Repr

/-! ### Items and tills (chapter 4) -/

/-- A set of item flags (R50). -/
structure ItemFlags where
  blocked : Bool
  weighed : Bool
  ageCheck : Bool
  deriving DecidableEq, Repr

/-- A record of the Item Table (R50). -/
structure Item where
  code : Nat
  active : Option Nat
  flags : ItemFlags
  staged : Option (Nat × ItemFlags)
  labels : List Nat
  floor : Option Nat
  deriving DecidableEq, Repr

/-- Basis of an item with a Ceiling (R52). -/
inductive Basis
  | active
  | shelf
  deriving DecidableEq, Repr

/-- A record of the Till Table, keyed by its number (R56). It is Signed-On while `port` is present. -/
structure Till where
  port : Option (Fin 16)
  lastTransaction : Option Nat
  lastSequence : Option Nat
  deriving DecidableEq, Repr

/-- The Load Transaction record (4.5). Its State is Open while `owner` is present. -/
structure LoadTransaction where
  owner : Option Source
  timer : Nat
  phase : Nat
  parts : Nat
  applied : Nat
  refused : Nat
  deriving DecidableEq, Repr

/-! ### Journal (chapter 5) -/

/-- The Sales Journal (R72, R74). `slots` are the held slots from Head on; Count is their number. `nextSequence` is none
when Exhausted. `scan` is the running Recovery Scan's distance from Head (R86). -/
structure Journal where
  head : Nat
  slots : List Slot
  nextSequence : Option Nat
  scan : Option Nat
  messageErrors : Nat
  lastLoss : Nat
  overflowMark : Option Nat
  deriving DecidableEq, Repr

/-! ### Labels (chapter 6) -/

/-- State of a label; a Sent label carries its Pending Price and Sent Count (R93). -/
inductive LabelState
  | unassigned
  | current
  | queued
  | sent (price count : Nat)
  | stale
  | lost
  deriving DecidableEq, Repr

/-- A record of the Label Table, keyed by its label index (R92). -/
structure Label where
  id : Nat
  link : LinkId
  item : Option Nat
  shown : Option Nat
  attempts : Nat
  state : LabelState
  deriving DecidableEq, Repr

/-- State of a link (R103). -/
inductive LinkState
  | off
  | silent
  | ready
  | faulted
  deriving DecidableEq, Repr

/-- A link record with its Work Queue, its Stale Scan position (R99, R102, R103) and the indices of its Sent labels in
the order they were sent (R104). -/
structure LinkRecord where
  state : LinkState
  checkErrors : Nat
  missed : Nat
  queue : List Nat
  sentOrder : List Nat
  scanPosition : Nat
  deriving DecidableEq, Repr

/-- One thing for each link. -/
structure PerLink (α : Type) where
  b0 : α
  b1 : α
  deriving DecidableEq, Repr

/-- The Label Pacer and the superframe numbers (R109-R111); `window` holds pairs of count and Number, newest first. -/
structure Pacer where
  remainder : Nat
  timeLeft : Nat
  oncePending : Bool
  count : Nat
  number : Nat
  window : List (Nat × Nat)
  deriving DecidableEq, Repr

/-! ### Batches (chapter 7) -/

/-- State of a Batch Record (R122). -/
inductive BatchState
  | receiving
  | armed
  | cutting
  | withdrawing
  deriving DecidableEq, Repr

/-- The Batch Record (R121); `BatchState.receiving` is the spec's Open. -/
structure Batch where
  number : Nat
  declared : Nat
  received : Nat
  rejected : Nat
  nextPart : Nat
  check : Check
  cutoverTime : Option Moment
  state : BatchState
  position : Nat
  deriving DecidableEq, Repr

/-- The Last Verdict (R121). -/
structure LastVerdict where
  number : Nat
  good : Bool
  rejected : Nat
  deriving DecidableEq, Repr

/-! ### Night link (chapter 8) -/

/-- Type of a Transfer Session (R141). -/
inductive SessionType
  | night
  | trickle
  deriving DecidableEq, Repr

/-- State of a Transfer Session (R142). -/
inductive SessionState
  | idle
  | opening
  | draining
  | stopping
  | receiving
  | closing
  | done
  | failed
  | cut
  deriving DecidableEq, Repr

/-- Condition of an outstanding block (R141, R205): `waiting k` holds its segments from number k + 1 on. -/
inductive Condition
  | offered
  | waiting (held : Nat)
  deriving DecidableEq, Repr

/-- An entry of Outstanding Blocks; `counted` tells that a refusal of it has been counted (R149). -/
structure OutBlock where
  number : Nat
  first : Nat
  records : Nat
  condition : Condition
  counted : Bool
  deriving DecidableEq, Repr

/-- A Batch Verdict (R123). -/
inductive VerdictKind
  | good
  | bad
  | noBatch
  deriving DecidableEq, Repr

/-- Last Outcome of a session (R163). -/
inductive LastOutcome
  | complete
  | declined
  | openUnanswered
  | blocksUnacknowledged
  | blockRejected
  | batchSilent
  | endUnanswered
  | stopped
  | nightEnd
  | reset
  deriving DecidableEq, Repr

/-- The Transfer Session record (R141). `reportAsked`: the journal report of R145 is asked for and not yet answered.
`openOffered`: this session's Transfer Open has been offered (R147). `acked`: the range acknowledged (R155).
`releaseNotice`: a release notice not yet acted on while a block waits (R39). -/
structure Session where
  type : Option SessionType
  state : SessionState
  openTag : Nat
  sessionId : Option Nat
  window : Option Nat
  batchExpected : Bool
  drainMark : Option Nat
  nextSend : Option Nat
  nextBlock : Nat
  outstanding : List OutBlock
  retry : Nat
  timer : Option Nat
  acknowledged : Nat
  verdict : Option (VerdictKind × Nat)
  lastOutcome : Option LastOutcome
  reportAsked : Bool
  openOffered : Bool
  acked : Option (Nat × Nat)
  releaseNotice : Bool
  messageErrors : Nat
  outOfPlace : Nat
  deriving DecidableEq, Repr

/-! ### Guests (chapter 9) -/

/-- State of a guest session with the times that state holds (R165, R166). -/
inductive GuestState
  | pending (left : Nat)
  | admitted (expiry : Option Moment)
  | throttled (expiry : Option Moment)
  | expired (hold : Moment)
  | barred
  deriving DecidableEq, Repr

/-- An entry of the Guest Session Table, keyed by its slot (R165). -/
structure Guest where
  station : Station
  port : Option (Fin 4)
  state : GuestState
  created : Moment
  stamp : Nat
  upBudget : Nat
  downBudget : Nat
  upRemaining : Option Nat
  downRemaining : Option Nat
  rate : Nat
  upBucket : Nat
  downBucket : Nat
  deriving DecidableEq, Repr

/-- The Guest Unit: its table, the Closing Number and Closing Sweep (R177) and its statistics (R181). -/
structure GuestUnit where
  table : Table Guest
  closingNumber : Nat
  sweep : Option Nat
  upDrops : Nat
  downDrops : Nat
  reclaims : Nat
  deriving DecidableEq, Repr

/-! ### Management (chapter 10) -/

/-- The 33 event kinds, in kind number order (10.5). -/
inductive EventKind
  | cellDrop
  | queueDrop
  | zoneDeny
  | unknownDest
  | addrFull
  | zoneMove
  | misplaced
  | tillRefused
  | overcharge
  | blockedSale
  | duplicateSale
  | journalHigh
  | journalHeld
  | recoveryLoss
  | labelLost
  | labelLate
  | labelStale
  | linkFault
  | linkSilent
  | batchArmed
  | batchBad
  | batchDiscarded
  | cutoverDone
  | lateCutover
  | nightDone
  | nightFailed
  | nightCut
  | guestFull
  | guestQuota
  | txnTimeout
  | controllerLost
  | configBad
  | timeSet
  deriving DecidableEq, Repr

/-- The Event Counters, the Notice Owed marks and the Notice Number (R189, R190). -/
structure Events where
  counters : Vector Nat 33
  owed : Vector Bool 33
  noticeNumber : Nat
  deriving DecidableEq, Repr

/-- Controller supervision (10.4). -/
structure Supervision where
  present : Bool
  timer : Option Nat
  station : Option Station
  deriving DecidableEq, Repr

/-- The Reset Cause Record (R194). -/
structure ResetCauses where
  powerOn : Bool
  pin : Bool
  full : Bool
  soft : Bool
  deriving DecidableEq, Repr

/-- The two restarts (R195), in the order R195 lists them. -/
inductive RestartKind
  | soft
  | full
  deriving DecidableEq, Repr

/-- A pending Restart. It begins once `response`, its response's copy, is none: ended or refused (R195). -/
structure PendingRestart where
  kind : RestartKind
  response : Option Nat
  deriving DecidableEq, Repr

/-- State of the Configuration Image (R197), in the order R197 lists them. -/
inductive ImageState
  | loading
  | good
  | bad
  | saving
  deriving DecidableEq, Repr

/-- A condition set of a status line (R200). -/
structure Conditions where
  uplinkUp : Bool
  controllerPresent : Bool
  nightActive : Bool
  journalHigh : Bool
  labelFault : Bool
  batchArmed : Bool
  deriving DecidableEq, Repr

/-- A status line's setting: its condition set and its mode, All or Any (R200). -/
structure StatusLine where
  set : Conditions
  all : Bool
  deriving DecidableEq, Repr

/-- Settings of the Classifier, the Buffer Manager and the Output Scheduler (R20, R24, R34, R41, R45, R48). -/
structure QueueSettings where
  matrix : Vector Bool 25
  limits : Vector (PerClass Nat) 24
  tillReserve : Nat
  controlReserve : Nat
  guestCap : Nat
  dayBulk : Nat
  dayGuest : Nat
  nightBulk : Nat
  nightGuest : Nat
  shaperRate : Nat
  ageTime : Nat
  deriving DecidableEq, Repr

/-- Pacer and link settings (R112). -/
structure LabelSettings where
  external : Bool
  period : Nat
  max : Nat
  slotBudget : Nat
  faultThreshold : Nat
  deriving DecidableEq, Repr

/-- Guest settings (R181); `duration` in seconds, rates in bytes per second, `hold` in seconds. -/
structure GuestSettings where
  duration : Nat
  upBudget : Nat
  downBudget : Nat
  rate : Nat
  floor : Nat
  hold : Nat
  deriving DecidableEq, Repr

/-- The settings of R186. -/
structure ManagementSettings where
  branch : Nat
  headOffice : Option Station
  uplinkManagement : Bool
  takeOfficeTime : Bool
  trickle : Bool
  writeBar : Bool
  heartbeat : Nat
  override : Option Station
  notify : Vector Bool 33
  statusA : StatusLine
  statusB : StatusLine
  deriving DecidableEq, Repr

/-- The running settings of R197, less the daily slot times, whose home is the Schedule Table. -/
structure Settings where
  queue : QueueSettings
  labels : LabelSettings
  guest : GuestSettings
  management : ManagementSettings
  highMark : Nat
  loadTimer : Nat
  windowLimit : Nat
  blockTimer : Nat
  deriving DecidableEq, Repr

/-- The four daily slot times, as the image carries them (R8, R197). -/
structure DailyTimes where
  storeOpen : Option Nat
  storeClose : Option Nat
  nightStart : Option Nat
  nightEnd : Option Nat
  deriving DecidableEq, Repr

/-- The contents of a Configuration Image (R197). -/
structure ImageContents where
  settings : Settings
  times : DailyTimes
  deriving DecidableEq, Repr

/-- The serial flash: whether the stored image carries the format mark and version, whether its check value holds, and
its contents (R197). -/
structure Flash where
  formatMark : Bool
  checkHolds : Bool
  contents : ImageContents
  deriving DecidableEq, Repr

/-- The Management Unit's own state (R201); `saving` holds the settings captured by a save under way (R198). -/
structure Management where
  supervision : Supervision
  events : Events
  messageErrors : Nat
  causes : ResetCauses
  restart : Option PendingRestart
  image : ImageState
  strap : BitVec 4
  flash : Flash
  saving : Option ImageContents
  deriving DecidableEq, Repr

end Sys2Proof.Machine
end

