-- ==== Sys2Proof/Machine/Bytes.lean ====
section
/-! DEFINITION. Bytes, check values and the branch message envelope (chapter 11, R16). -/

namespace Sys2Proof.Machine

/-- `x` as `n` bytes, most significant first (11, R202). -/
def be : Nat → Nat → List Byte
  | 0, _ => []
  | n + 1, x => BitVec.ofNat 8 (x >>> (8 * n)) :: be n x

/-- The unsigned value of bytes, most significant first. -/
def unbe (bs : List Byte) : Nat := bs.foldl (fun acc b => acc * 256 + b.toNat) 0

/-- The unsigned value of the `n` bytes at an offset; bytes beyond the end read as nothing. -/
def fieldAt (bs : List Byte) (off n : Nat) : Nat := unbe ((bs.drop off).take n)

/-- The signed value of the four bytes at an offset, two's complement (11.2). -/
def signedAt (bs : List Byte) (off : Nat) : Int := (BitVec.ofNat 32 (fieldAt bs off 4)).toInt

/-- A signed value as four bytes (11.2). -/
def beInt (x : Int) : List Byte := be 4 (BitVec.ofInt 32 x).toNat

/-- A station address in six bytes. -/
def beStation (a : Station) : List Byte := be 6 a.toNat

/-- The station address at an offset. -/
def stationAt (bs : List Byte) (off : Nat) : Station := BitVec.ofNat 48 (fieldAt bs off 6)

/-- A yes/no byte, or a presence byte (11.2). -/
def beBool (b : Bool) : List Byte := [if b then 1#8 else 0#8]

/-- An optional field of `n` bytes: a presence byte, then the field, its bytes 0 when absent (11.2). -/
def beOption (n : Nat) : Option Nat → List Byte
  | some x => 1#8 :: be n x
  | none => 0#8 :: be n 0

/-- A pair of Store Time: day (2), ms of day (4) (11.2). -/
def beMoment (m : Moment) : List Byte := be 2 m.day ++ be 4 m.ms

/-- An optional pair of Store Time. -/
def beMomentOption : Option Moment → List Byte
  | some m => 1#8 :: beMoment m
  | none => 0#8 :: be 6 0

/-- An optional station address. -/
def beStationOption : Option Station → List Byte
  | some a => 1#8 :: beStation a
  | none => 0#8 :: be 6 0

/-- Whether a station address is a group address: the least significant bit of its first byte (R202). -/
def isGroup (a : Station) : Bool := a.getLsbD 40

/-- The broadcast address, every bit set (R202). -/
def broadcast : Station := 0xFFFFFFFFFFFF#48

/-- One shift of the 32-bit register with the polynomial 0x04C11DB7, `bit` fed in (R16, R203). -/
def crcBit (reg : Check) (bit : Bool) : Check :=
  if reg.msb != bit then (reg <<< 1) ^^^ 0x04C11DB7#32 else reg <<< 1

/-- The register after a byte, most significant bit first (R203). -/
def crcByteMsb (reg : Check) (b : Byte) : Check :=
  [7, 6, 5, 4, 3, 2, 1, 0].foldl (fun r i => crcBit r (b.getLsbD i)) reg

/-- The register after a byte, least significant bit first (R16). -/
def crcByteLsb (reg : Check) (b : Byte) : Check :=
  [0, 1, 2, 3, 4, 5, 6, 7].foldl (fun r i => crcBit r (b.getLsbD i)) reg

/-- The register after bytes, carried on from where it stands (R121, R203). -/
def crcCarry (reg : Check) (bs : List Byte) : Check := bs.foldl crcByteMsb reg

/-- The register before the first byte: all ones (R203, R121). -/
def crcStart : Check := 0xFFFFFFFF#32

/-- The check value over bytes (R203). -/
def checkValue (bs : List Byte) : Check := crcCarry crcStart bs

/-- A byte with its bits in the other order. -/
def reverseByte (b : Byte) : Byte :=
  [0, 1, 2, 3, 4, 5, 6, 7].foldl (fun r i => if b.getLsbD i then r ||| (1#8 <<< (7 - i)) else r) 0#8

/-- The frame check over the bytes before it (R16): the complement of the register, its highest-order term first on a wire
that carries each byte least significant bit first. Log 7. -/
def frameCheck (bs : List Byte) : List Byte :=
  (be 4 (~~~ (bs.foldl crcByteLsb crcStart)).toNat).map reverseByte

/-- Whether a whole frame's last four bytes are its frame check (R16). -/
def frameCheckHolds (frame : List Byte) : Bool :=
  decide (frame.drop (frame.length - 4) = frameCheck (frame.take (frame.length - 4)))

/-! ### The envelope (R202) -/

/-- Destination station address. -/
def frameDestination (f : List Byte) : Station := stationAt f 0

/-- Source station address. -/
def frameSource (f : List Byte) : Station := stationAt f 6

/-- Frame type. -/
def frameType (f : List Byte) : Nat := fieldAt f 12 2

/-- Version. -/
def frameVersion (f : List Byte) : Nat := fieldAt f 14 1

/-- Kind code. -/
def frameKind (f : List Byte) : Nat := fieldAt f 15 1

/-- Tag. -/
def frameTag (f : List Byte) : Nat := fieldAt f 16 2

/-- Body length L. -/
def frameBodyLength (f : List Byte) : Nat := fieldAt f 18 2

/-- The body: L bytes from offset 20. -/
def frameBody (f : List Byte) : List Byte := (f.drop 20).take (frameBodyLength f)

/-- Step 2 of R203: the check value after the body holds over it. -/
def checkHolds (f : List Byte) : Bool :=
  decide ((checkValue (frameBody f)).toNat = fieldAt f (20 + frameBodyLength f) 4)

/-- Step 3 of R203: the body length agrees with the frame. -/
def lengthAgrees (f : List Byte) : Bool :=
  decide (28 + frameBodyLength f = f.length) || (decide (f.length = 64) && decide (28 + frameBodyLength f < 64))

/-- Steps 2 and 3 of R203. -/
def envelopeOk (f : List Byte) : Bool := checkHolds f && lengthAgrees f

/-- The bytes of a branch message before its frame check: envelope, body, check value and the pad to 64 bytes (R204). -/
def messageHead (kind : Nat) (dst src : Station) (tag : Nat) (body : List Byte) : List Byte :=
  beStation dst ++ beStation src ++ be 2 0x9C41 ++ be 1 1 ++ be 1 kind ++ be 2 tag ++ be 2 body.length ++ body
    ++ be 4 (checkValue body).toNat ++ List.replicate (36 - body.length) 0#8

/-- A whole branch message as the part builds it (R204). -/
def buildMessage (kind : Nat) (dst src : Station) (tag : Nat) (body : List Byte) : List Byte :=
  messageHead kind dst src tag body ++ frameCheck (messageHead kind dst src tag body)

end Sys2Proof.Machine
end

