-- ==== Sys2Proof/Machine/Tables.lean ====
section
/-! DEFINITION. The operations over the keyed tables: look up, put, remove, the lowest free key. Each keeps the canonical
form `Table.wf` (Sys2Proof/Laws/Table.lean). -/

namespace Sys2Proof.Machine

/-- The canonical form: keys rise strictly. -/
abbrev Table.wf {α : Type} (t : Table α) : Prop := t.Pairwise (fun x y => x.1 < y.1)

/-- The record at key `k`. -/
def Table.get? {α : Type} : Table α → Nat → Option α
  | [], _ => none
  | (j, v) :: t, k => if j = k then some v else Table.get? t k

/-- `t` with the record at key `k` made or replaced. -/
def Table.put {α : Type} (k : Nat) (v : α) : Table α → Table α
  | [] => [(k, v)]
  | (j, w) :: t =>
    if k < j then (k, v) :: (j, w) :: t
    else if k = j then (k, v) :: t
    else (j, w) :: Table.put k v t

/-- `t` without the record at key `k`. -/
def Table.del {α : Type} (k : Nat) : Table α → Table α
  | [] => []
  | (j, w) :: t => if j = k then t else (j, w) :: Table.del k t

/-- Every record changed, the keys kept. -/
def Table.mapRecords {α : Type} (f : α → α) (t : Table α) : Table α := t.map (fun kv => (kv.1, f kv.2))

/-- The records that pass, kept. -/
def Table.keep {α : Type} (p : α → Bool) (t : Table α) : Table α := t.filter (fun kv => p kv.2)

/-- The first key and record that pass, lowest key first. -/
def Table.findBy {α : Type} (p : α → Bool) (t : Table α) : Option (Nat × α) := t.find? (fun kv => p kv.2)

/-- The lowest free key at or above `n`, for a table in canonical form whose keys start at or above `n`. -/
def Table.freeFrom {α : Type} : Table α → Nat → Nat
  | [], n => n
  | (j, _) :: t, n => if j = n then Table.freeFrom t (n + 1) else n

/-- The lowest free index of a table (R51, R92, R165). -/
def Table.lowestFree {α : Type} (t : Table α) : Nat := Table.freeFrom t 0

/-- How many records pass. -/
def Table.countBy {α : Type} (p : α → Bool) (t : Table α) : Nat := (t.filter (fun kv => p kv.2)).length

end Sys2Proof.Machine
end

