-- ==== Sys2Proof/Machine/Defaults.lean ====
section
/-! DEFINITION. The built-in defaults of the settings and the values each block holds after power-on. -/

namespace Sys2Proof.Machine

/-- The built-in zone matrix: rows are source zones, true is permit (R20). -/
def defaultMatrix : Vector Bool 25 :=
  #v[false, true, true, true, false,
     true, false, true, true, true,
     true, true, false, false, false,
     true, true, false, false, false,
     false, true, false, false, false]

/-- The built-in defaults of R49, R24 and R20. -/
def defaultQueueSettings : QueueSettings where
  matrix := defaultMatrix
  limits := Vector.replicate 24 ⟨256, 256, 256, 256, 256⟩
  tillReserve := 1024
  controlReserve := 256
  guestCap := 2048
  dayBulk := 1
  dayGuest := 4
  nightBulk := 12
  nightGuest := 1
  shaperRate := 0
  ageTime := 300

/-- The defaults of R112. -/
def defaultLabelSettings : LabelSettings where
  external := false
  period := 250
  max := 4096
  slotBudget := 8
  faultThreshold := 16

/-- The defaults of R181. -/
def defaultGuestSettings : GuestSettings where
  duration := 3600
  upBudget := 100000000
  downBudget := 500000000
  rate := 2500000
  floor := 16000
  hold := 600

/-- The defaults of R186 and R200. -/
def defaultManagementSettings : ManagementSettings where
  branch := 0
  headOffice := none
  uplinkManagement := false
  takeOfficeTime := true
  trickle := true
  writeBar := true
  heartbeat := 10
  override := none
  notify := Vector.replicate 33 true
  statusA := ⟨⟨true, true, false, false, false, false⟩, true⟩
  statusB := ⟨⟨false, false, false, true, true, false⟩, false⟩

/-- All built-in defaults: R83 gives the High Mark, R67 the load timer, R162 the window limit and block timer. -/
def defaultSettings : Settings where
  queue := defaultQueueSettings
  labels := defaultLabelSettings
  guest := defaultGuestSettings
  management := defaultManagementSettings
  highMark := 14336
  loadTimer := 30
  windowLimit := 4
  blockTimer := 5

/-- The built-in defaults have all four daily times absent (R11). -/
def defaultTimes : DailyTimes := ⟨none, none, none, none⟩

/-- Turn Bulk, Granted no, both Deficits 0 (R44). -/
def resetDrr : Drr := ⟨false, false, 0, 0⟩

/-- Five empty queues. -/
def emptyQueues : PerClass (List Nat) := ⟨[], [], [], [], []⟩

/-- A port at power-on: Down, its counts zero (R14), its queues empty (R49). -/
def powerOnPort : PortState where
  linkUp := false
  lengthErrors := 0
  checkErrors := 0
  loadingDiscards := 0
  localFilters := 0
  queues := emptyQueues
  sending := none
  drr := resetDrr

/-- The pool after every reset: all cells free, the bucket full (R49). -/
def resetPool : Pool := ⟨[], 0, ⟨0, 0, 0, 0, 0⟩, 3072000⟩

/-- The journal at power-on (R91). -/
def powerOnJournal : Journal where
  head := 0
  slots := []
  nextSequence := some 1
  scan := none
  messageErrors := 0
  lastLoss := 0
  overflowMark := none

/-- A link record at power-on and after a pin reset or Full Restart (R120). -/
def resetLink : LinkRecord := ⟨.off, 0, 0, [], [], 0⟩

/-- The pacer at power-on and after a pin reset or Full Restart (R120). -/
def resetPacer : Pacer := ⟨0, 0, false, 0, 0, []⟩

/-- The Transfer Session at power-on (R164). -/
def powerOnSession : Session where
  type := none
  state := .idle
  openTag := 0
  sessionId := none
  window := none
  batchExpected := false
  drainMark := none
  nextSend := none
  nextBlock := 1
  outstanding := []
  retry := 0
  timer := none
  acknowledged := 0
  verdict := none
  lastOutcome := none
  reportAsked := false
  openOffered := false
  acked := none
  releaseNotice := false
  messageErrors := 0
  outOfPlace := 0

/-- The Guest Unit at power-on (R182). -/
def powerOnGuests : GuestUnit := ⟨[], 0, none, 0, 0, 0⟩

/-- The Load Transaction at power-on (R71). -/
def powerOnLoad : LoadTransaction := ⟨none, 0, 0, 0, 0, 0⟩

/-- The Schedule Table at power-on, its times absent until loading ends (R11). -/
def powerOnSchedule : Schedule := ⟨⟨none, none⟩, ⟨none, none⟩, ⟨none, none⟩, ⟨none, none⟩, none, false⟩

/-- The Event Counters after power-on, pin reset and Full Restart (R189, R190). -/
def resetEvents : Events := ⟨Vector.replicate 33 0, Vector.replicate 33 false, 0⟩

/-- A flash that holds no valid image (R197: a blank flash). Log 5. -/
def blankFlash : Flash := ⟨false, false, ⟨defaultSettings, defaultTimes⟩⟩

/-- The Management Unit at power-on, the straps read as `strap` and the flash as it stands (R201). -/
def powerOnManagement (strap : BitVec 4) (flash : Flash) : Management where
  supervision := ⟨true, none, none⟩
  events := resetEvents
  messageErrors := 0
  causes := ⟨true, false, false, false⟩
  restart := none
  image := .loading
  strap := strap
  flash := flash
  saving := none

end Sys2Proof.Machine
end

