-- ==== Sys2Proof/Machine/State.lean ====
section
/-! DEFINITION. The state of the FX640: everything the spec gives the part, as plain data, and the queue of commands. -/

namespace Sys2Proof.Machine

/-- Why the part stops. The spec gives it no stop: it counts, answers or drops what is wrong. So there is no reason,
and no command raises one. Safe: nothing is cut short. -/
inductive Fault
  deriving DecidableEq, Repr

/-- Why the model has no meaning for a command. -/
inductive Refusal
  /-- A row of the table not modelled yet, by its mnemonic; raised by a refused arm of `exec` alone. There is none.
  Safe: nothing is claimed of it. -/
  | notModelled (mnemonic : String)
  deriving DecidableEq, Repr

/-- The state of the part. Each field's rule stands in INVENTORY.md under State. -/
structure State where
  /-- The supply is established (R196, R198). -/
  supplied : Bool
  /-- The RESET line is held (R196). -/
  resetHeld : Bool
  clock : Clock
  mode : StoreMode
  schedule : Schedule
  settings : Settings
  ports : Vector PortState 24
  /-- The Address Table, keyed by station (2.5). -/
  addresses : Table AddressEntry
  /-- Messages handed on and not yet taken, in the order of their arrival (R19). -/
  handed : List Handed
  pool : Pool
  /-- The Item Table, keyed by item index (R50). -/
  items : Table Item
  /-- The Till Table, keyed by till number (R56). -/
  tills : Table Till
  /-- The Price Service's Message Errors (R53). -/
  priceErrors : Nat
  load : LoadTransaction
  journal : Journal
  /-- The Label Table, keyed by label index (R92). -/
  labels : Table Label
  links : PerLink LinkRecord
  pacer : Pacer
  batch : Option Batch
  lastVerdict : Option LastVerdict
  session : Session
  guests : GuestUnit
  management : Management
  /-- How often BEACON OUT has pulsed (R111). Log 30. -/
  beaconPulses : Nat
  /-- How many free values have been drawn. Log 10. -/
  freeUsed : Nat
  /-- The commands waiting, first in, first out. -/
  pending : List Instr
  deriving DecidableEq, Repr

/-- The part at power-on with the straps and the flash given: each block's power-on values, the image Loading (R196). -/
def State.atPowerOn (strap : BitVec 4) (flash : Flash) : State where
  supplied := true
  resetHeld := false
  clock := ⟨⟨0, 0⟩, false⟩
  mode := .closed
  schedule := powerOnSchedule
  settings := defaultSettings
  ports := Vector.replicate 24 powerOnPort
  addresses := []
  handed := []
  pool := resetPool
  items := []
  tills := []
  priceErrors := 0
  load := powerOnLoad
  journal := powerOnJournal
  labels := []
  links := ⟨resetLink, resetLink⟩
  pacer := resetPacer
  batch := none
  lastVerdict := none
  session := powerOnSession
  guests := powerOnGuests
  management := powerOnManagement strap flash
  beaconPulses := 0
  freeUsed := 0
  pending := []

/-- The machine right after reset: power-on, with the straps low and a blank flash (log 5). -/
def State.reset : State := State.atPowerOn 0#4 blankFlash

end Sys2Proof.Machine
end

