-- ==== Sys2Proof/Machine/Updates.lean ====
section
/-! DEFINITION. One update of State for each of its fields. Every other definition changes State through these, so that
proofs read a field through a short lemma (Sys2Proof/Laws/State.lean). -/

namespace Sys2Proof.Machine

/-- `s` with `supplied` set. -/
def State.setSupplied (s : State) (v : Bool) : State := { s with supplied := v }

/-- `s` with `resetHeld` set. -/
def State.setResetHeld (s : State) (v : Bool) : State := { s with resetHeld := v }

/-- `s` with `clock` set. -/
def State.setClock (s : State) (v : Clock) : State := { s with clock := v }

/-- `s` with `mode` set. -/
def State.setMode (s : State) (v : StoreMode) : State := { s with mode := v }

/-- `s` with `schedule` set. -/
def State.setSchedule (s : State) (v : Schedule) : State := { s with schedule := v }

/-- `s` with `settings` set. -/
def State.setSettings (s : State) (v : Settings) : State := { s with settings := v }

/-- `s` with `ports` set. -/
def State.setPorts (s : State) (v : Vector PortState 24) : State := { s with ports := v }

/-- `s` with `addresses` set. -/
def State.setAddresses (s : State) (v : Table AddressEntry) : State := { s with addresses := v }

/-- `s` with `handed` set. -/
def State.setHanded (s : State) (v : List Handed) : State := { s with handed := v }

/-- `s` with `pool` set. -/
def State.setPool (s : State) (v : Pool) : State := { s with pool := v }

/-- `s` with `items` set. -/
def State.setItems (s : State) (v : Table Item) : State := { s with items := v }

/-- `s` with `tills` set. -/
def State.setTills (s : State) (v : Table Till) : State := { s with tills := v }

/-- `s` with `priceErrors` set. -/
def State.setPriceErrors (s : State) (v : Nat) : State := { s with priceErrors := v }

/-- `s` with `load` set. -/
def State.setLoad (s : State) (v : LoadTransaction) : State := { s with load := v }

/-- `s` with `journal` set. -/
def State.setJournal (s : State) (v : Journal) : State := { s with journal := v }

/-- `s` with `labels` set. -/
def State.setLabels (s : State) (v : Table Label) : State := { s with labels := v }

/-- `s` with `links` set. -/
def State.setLinks (s : State) (v : PerLink LinkRecord) : State := { s with links := v }

/-- `s` with `pacer` set. -/
def State.setPacer (s : State) (v : Pacer) : State := { s with pacer := v }

/-- `s` with `batch` set. -/
def State.setBatch (s : State) (v : Option Batch) : State := { s with batch := v }

/-- `s` with `lastVerdict` set. -/
def State.setLastVerdict (s : State) (v : Option LastVerdict) : State := { s with lastVerdict := v }

/-- `s` with `session` set. -/
def State.setSession (s : State) (v : Session) : State := { s with session := v }

/-- `s` with `guests` set. -/
def State.setGuests (s : State) (v : GuestUnit) : State := { s with guests := v }

/-- `s` with `management` set. -/
def State.setManagement (s : State) (v : Management) : State := { s with management := v }

/-- `s` with `beaconPulses` set. -/
def State.setBeaconPulses (s : State) (v : Nat) : State := { s with beaconPulses := v }

/-- `s` with `freeUsed` set. -/
def State.setFreeUsed (s : State) (v : Nat) : State := { s with freeUsed := v }

/-- `s` with `pending` set. -/
def State.setPending (s : State) (v : List Instr) : State := { s with pending := v }

end Sys2Proof.Machine
end

