-- ==== Sys2Proof/Machine/Operands.lean ====
section
/-! DEFINITION. The forms in which commands and messages name things: ports, zones, classes, event kinds, slots, times,
and the optional and enumerated fields of message bodies. -/

namespace Sys2Proof.Machine

/-! ### Ports, zones and classes -/

/-- The number of a port in 11.3: UP 0, CTL 1, T0-T15 2-17, A0-A3 18-21, B0-B1 22-23. -/
def portIndex : PortId → Fin 24
  | .up => 0
  | .ctl => 1
  | .t n => ⟨2 + n.val, by omega⟩
  | .a n => ⟨18 + n.val, by omega⟩
  | .b .b0 => 22
  | .b .b1 => 23

/-- All 24 ports in the order of 11.3. -/
def allPorts : List PortId :=
  [.up, .ctl, .t 0, .t 1, .t 2, .t 3, .t 4, .t 5, .t 6, .t 7, .t 8, .t 9, .t 10, .t 11, .t 12, .t 13, .t 14, .t 15,
   .a 0, .a 1, .a 2, .a 3, .b .b0, .b .b1]

/-- The port of a number of 11.3. -/
def portOf? (n : Nat) : Option PortId := allPorts[n]?

/-- The zone of a port (R14). -/
def portZone : PortId → Zone
  | .up => .uplink
  | .ctl => .controller
  | .t _ => .till
  | .a _ => .guest
  | .b _ => .label

/-- Whether a port is a guest access point. -/
def isGuestPort : PortId → Bool
  | .a _ => true
  | _ => false

/-- The number of a zone in the order of R20. -/
def zoneIndex : Zone → Fin 5
  | .uplink => 0
  | .controller => 1
  | .till => 2
  | .guest => 3
  | .label => 4

/-- The zone of a number (R20, R21). -/
def zoneOf? (n : Nat) : Option Zone := [Zone.uplink, .controller, .till, .guest, .label][n]?

/-- The cell of the Zone Pass Matrix for a source and a destination zone (R20). -/
def matrixIndex (src dst : Zone) : Fin 25 := ⟨5 * (zoneIndex src).val + (zoneIndex dst).val, by omega⟩

/-- The five cells fixed at deny (R20). -/
def fixedCell : Zone → Zone → Bool
  | .guest, .till => true
  | .guest, .label => true
  | .guest, .guest => true
  | .till, .guest => true
  | .label, .guest => true
  | _, _ => false

/-- The class of a number of 11.3. -/
def classOf? (n : Nat) : Option OutClass := [OutClass.control, .till, .label, .bulk, .guest][n]?

/-- The thing of a class. -/
def PerClass.get {α : Type} (p : PerClass α) : OutClass → α
  | .control => p.control
  | .till => p.till
  | .label => p.label
  | .bulk => p.bulk
  | .guest => p.guest

/-- The thing of a class changed. -/
def PerClass.set {α : Type} (p : PerClass α) (c : OutClass) (v : α) : PerClass α :=
  match c with
  | .control => { p with control := v }
  | .till => { p with till := v }
  | .label => { p with label := v }
  | .bulk => { p with bulk := v }
  | .guest => { p with guest := v }

/-- The thing of a link. -/
def PerLink.get {α : Type} (p : PerLink α) : LinkId → α
  | .b0 => p.b0
  | .b1 => p.b1

/-- The thing of a link changed. -/
def PerLink.set {α : Type} (p : PerLink α) (l : LinkId) (v : α) : PerLink α :=
  match l with
  | .b0 => { p with b0 := v }
  | .b1 => { p with b1 := v }

/-- The number of a link in 11.2: B0 0, B1 1. -/
def linkIndex : LinkId → Nat
  | .b0 => 0
  | .b1 => 1

/-- The link of a number. -/
def linkOf? (n : Nat) : Option LinkId := [LinkId.b0, .b1][n]?

/-- The port a request's source reaches the part on (4.5). -/
def sourcePort : Source → PortId
  | .controller => .ctl
  | .headOffice => .up

/-- The 33 kinds in kind number order (10.5). -/
def allKinds : List EventKind :=
  [.cellDrop, .queueDrop, .zoneDeny, .unknownDest, .addrFull, .zoneMove, .misplaced, .tillRefused, .overcharge,
   .blockedSale, .duplicateSale, .journalHigh, .journalHeld, .recoveryLoss, .labelLost, .labelLate, .labelStale,
   .linkFault, .linkSilent, .batchArmed, .batchBad, .batchDiscarded, .cutoverDone, .lateCutover, .nightDone,
   .nightFailed, .nightCut, .guestFull, .guestQuota, .txnTimeout, .controllerLost, .configBad, .timeSet]

/-- The place of a kind: its kind number less 1 (10.5). -/
def kindIndex : EventKind → Fin 33
  | .cellDrop => 0
  | .queueDrop => 1
  | .zoneDeny => 2
  | .unknownDest => 3
  | .addrFull => 4
  | .zoneMove => 5
  | .misplaced => 6
  | .tillRefused => 7
  | .overcharge => 8
  | .blockedSale => 9
  | .duplicateSale => 10
  | .journalHigh => 11
  | .journalHeld => 12
  | .recoveryLoss => 13
  | .labelLost => 14
  | .labelLate => 15
  | .labelStale => 16
  | .linkFault => 17
  | .linkSilent => 18
  | .batchArmed => 19
  | .batchBad => 20
  | .batchDiscarded => 21
  | .cutoverDone => 22
  | .lateCutover => 23
  | .nightDone => 24
  | .nightFailed => 25
  | .nightCut => 26
  | .guestFull => 27
  | .guestQuota => 28
  | .txnTimeout => 29
  | .controllerLost => 30
  | .configBad => 31
  | .timeSet => 32

/-- The kind of a kind number 1-33 (10.5). -/
def kindOf? (n : Nat) : Option EventKind := if n = 0 then none else allKinds[n - 1]?

/-! ### Times -/

/-- Milliseconds of a day. -/
def dayMs : Nat := 86400000

/-- Pairs are compared day first, then millisecond (R2). -/
def Moment.le (a b : Moment) : Bool := decide (a.day < b.day) || (decide (a.day = b.day) && decide (a.ms ≤ b.ms))

/-- Store Time one millisecond on, with the rollover and the wrap of R1. -/
def Moment.next (m : Moment) : Moment :=
  if m.ms + 1 < dayMs then ⟨m.day, m.ms + 1⟩
  else if m.day < 65535 then ⟨m.day + 1, 0⟩
  else ⟨0, 0⟩

/-- Store Time plus whole milliseconds, held at the last pair before the wrap (R176). -/
def Moment.plus (m : Moment) (n : Nat) : Moment :=
  if m.day + (m.ms + n) / dayMs ≤ 65535 then ⟨m.day + (m.ms + n) / dayMs, (m.ms + n) % dayMs⟩
  else ⟨65535, dayMs - 1⟩

/-! ### Counts -/

/-- One more, saturating at 65,535. -/
def bump16 (n : Nat) : Nat := min (n + 1) 65535

/-- One more, 65,535 being followed by 0 (R143, R177, R190). -/
def wrap16 (n : Nat) : Nat := if n < 65535 then n + 1 else 0

/-! ### Fields of message bodies (11.2) -/

/-- The greatest item code (R50). -/
def maxCode : Nat := 9999999999999

/-- The greatest price (R50). -/
def maxPrice : Nat := 9999999

/-- Whether a code is one an item can have. -/
def codeOk (c : Nat) : Bool := decide (1 ≤ c) && decide (c ≤ maxCode)

/-- An optional field of `n` bytes at an offset: none when its presence byte is neither 0 nor 1 (log 23). -/
def optionAt (bs : List Byte) (off n : Nat) : Option (Option Nat) :=
  if fieldAt bs off 1 = 0 then some none
  else if fieldAt bs off 1 = 1 then some (some (fieldAt bs (off + 1) n))
  else none

/-- An optional pair of Store Time at an offset. -/
def momentOptionAt (bs : List Byte) (off : Nat) : Option (Option Moment) :=
  if fieldAt bs off 1 = 0 then some none
  else if fieldAt bs off 1 = 1 then some (some ⟨fieldAt bs (off + 1) 2, fieldAt bs (off + 3) 4⟩)
  else none

/-- The pieces of `n` bytes that follow one another from an offset, `k` of them. -/
def piecesAt (bs : List Byte) (off n : Nat) : Nat → List (List Byte)
  | 0 => []
  | k + 1 => (bs.drop off).take n :: piecesAt bs (off + n) n k

end Sys2Proof.Machine
end

