-- ==== Sys2Proof/Machine/Flags.lean ====
section
/-! DEFINITION. The flag sets: item flags, reset causes, line flags, the conditions of the status lines and the levels of
STATUS A and STATUS B. -/

namespace Sys2Proof.Machine

/-- Item flags from a flag set byte: none where it names another flag (R62, R126). -/
def itemFlagsOf? (b : Nat) : Option ItemFlags :=
  if b < 8 then some ⟨b.testBit 0, b.testBit 1, b.testBit 2⟩ else none

/-- A flag set as a byte, bit 0 for the first flag (11.2). -/
def flagByte (fs : List Bool) : Nat := fs.foldr (fun f acc => f.toNat + 2 * acc) 0

/-- Item flags as a flag set byte: Blocked, Weighed, Age-Check. -/
def itemFlagByte (f : ItemFlags) : Nat := flagByte [f.blocked, f.weighed, f.ageCheck]

/-- The Reset Cause Record as a flag set byte, in the order R194 lists its flags. -/
def causeByte (c : ResetCauses) : Nat := flagByte [c.powerOn, c.pin, c.full, c.soft]

/-- A line's flag byte: Override, Overcharge, Blocked, Unknown (11.3). -/
def lineFlagByte (l : Line) : Nat := flagByte [l.override, l.overcharge, l.blocked, l.unknown]

/-- A condition set from a flag set byte in the order of R200's table; none where it names another (log 22). -/
def conditionsOf? (b : Nat) : Option Conditions :=
  if b < 64 then some ⟨b.testBit 0, b.testBit 1, b.testBit 2, b.testBit 3, b.testBit 4, b.testBit 5⟩ else none

/-- The active states of a session (R142). -/
def SessionState.active : SessionState → Bool
  | .opening | .draining | .stopping | .receiving | .closing => true
  | .idle | .done | .failed | .cut => false

/-- Whether the Configuration Image is Loading. -/
def State.loading (s : State) : Bool := decide (s.management.image = .loading)

/-- The record of a port. -/
def State.port (s : State) (p : PortId) : PortState := s.ports[portIndex p]

/-- The record of a port changed. -/
def State.setPort (s : State) (p : PortId) (v : PortState) : State := s.setPorts (s.ports.set (portIndex p) v)

/-- Whether a port's Link is Up. -/
def State.isUp (s : State) (p : PortId) : Bool := (s.port p).linkUp

/-- The conditions of R200 as they stand. -/
def State.conditions (s : State) : Conditions where
  uplinkUp := s.isUp .up
  controllerPresent := s.management.supervision.present
  nightActive := s.session.state.active
  journalHigh := decide (s.settings.highMark ≤ s.journal.slots.length)
  labelFault := decide (s.links.b0.state = .faulted) || decide (s.links.b1.state = .faulted)
  batchArmed := match s.batch with
    | some b => decide (b.state = .armed)
    | none => false

/-- The conditions as a list, in the order of R200's table. -/
def Conditions.toList (c : Conditions) : List Bool :=
  [c.uplinkUp, c.controllerPresent, c.nightActive, c.journalHigh, c.labelFault, c.batchArmed]

/-- The level of a line with its setting under conditions (R200). An empty set is deasserted in both modes. -/
def StatusLine.level (l : StatusLine) (c : Conditions) : Bool :=
  let inSet := (l.set.toList.zip c.toList).filter (·.1)
  if inSet.isEmpty then false
  else if l.all then inSet.all (·.2)
  else inSet.any (·.2)

/-- The level of STATUS A (R200): deasserted while Loading. -/
def State.statusA (s : State) : Bool := !s.loading && s.settings.management.statusA.level s.conditions

/-- The level of STATUS B (R200): deasserted while Loading. -/
def State.statusB (s : State) : Bool := !s.loading && s.settings.management.statusB.level s.conditions

end Sys2Proof.Machine
end

