-- ==== Sys2Proof/Machine/Ops.lean ====
section
/-! DEFINITION. The operations every block shares: admission to the Cell Pool and release from it (chapter 3), event counts
and Event Notices (10.5), part-generated frames (R204), and messages handed on (R19). -/

namespace Sys2Proof.Machine

/-! ### Parts of State reached often -/

/-- The Management Unit's record changed by a function. -/
def State.onManagement (s : State) (f : Management → Management) : State := s.setManagement (f s.management)

/-- The Event Counters' record changed. -/
def State.setEvents (s : State) (v : Events) : State := s.onManagement (fun m => { m with events := v })

/-- The Event Counters' record. -/
def State.events (s : State) : Events := s.management.events

/-- The counter of a kind. -/
def State.counter (s : State) (k : EventKind) : Nat := s.events.counters[kindIndex k]

/-- The Notice Owed mark of a kind. -/
def State.isOwed (s : State) (k : EventKind) : Bool := s.events.owed[kindIndex k]

/-- The Notice Owed mark of a kind changed. -/
def State.setOwed (s : State) (k : EventKind) (v : Bool) : State :=
  s.setEvents { s.events with owed := s.events.owed.set (kindIndex k) v }

/-- The notify enable of a kind (R186). -/
def State.notifies (s : State) (k : EventKind) : Bool := s.settings.management.notify[kindIndex k]

/-- The link record of a link. -/
def State.link (s : State) (l : LinkId) : LinkRecord := s.links.get l

/-- The link record of a link changed. -/
def State.setLink (s : State) (l : LinkId) (v : LinkRecord) : State := s.setLinks (s.links.set l v)

/-- The management station address in force: the override, or the strap address (R199). -/
def State.managementAddress (s : State) : Station :=
  match s.settings.management.override with
  | some a => a
  | none => 0x02A7316C0FE0#48 ||| s.management.strap.setWidth 48

/-! ### The Cell Pool (3.1 to 3.4) -/

/-- The cells a frame of n bytes takes: n ÷ 128, rounded up (R33). -/
def cellsOf (n : Nat) : Nat := (n + 127) / 128

/-- The sum over the five classes. -/
def PerClass.total (p : PerClass Nat) : Nat := p.control + p.till + p.label + p.bulk + p.guest

/-- The free cells: the pool of 8,192 less the cells in use (R33). -/
def State.freeCells (s : State) : Nat := 8192 - s.pool.inUse.total

/-- The sum of the Till and Control shortfalls for given cells in use and reserves (R34). -/
def shortfallSum (q : QueueSettings) (inUse : PerClass Nat) : Nat :=
  (q.tillReserve - inUse.till) + (q.controlReserve - inUse.control)

/-- The output queue of a port and class. -/
def State.queue (s : State) (p : PortId) (c : OutClass) : List Nat := (s.port p).queues.get c

/-- The output queue of a port and class changed. -/
def State.setQueue (s : State) (p : PortId) (c : OutClass) (q : List Nat) : State :=
  s.setPort p { s.port p with queues := (s.port p).queues.set c q }

/-- Whether a port's queue for a class takes a copy: its Link is Up and its entries are below its limit (R36 step 1, R41). -/
def State.takesCopy (s : State) (c : OutClass) (p : PortId) : Bool :=
  s.isUp p && decide ((s.queue p c).length < (s.settings.queue.limits[portIndex p]).get c)

/-- An entry for a stored frame joins the tail of a queue. -/
def State.joinQueue (s : State) (c : OutClass) (ref : Nat) (p : PortId) : State :=
  s.setQueue p c (s.queue p c ++ [ref])

/-- Step 5 of R36: the frame is stored with one copy for each accepting queue and joins each of them. -/
def State.storeFrame (s : State) (c : OutClass) (o : Origin) (bytes : List Byte) (accepting : List PortId) : State :=
  let n := cellsOf bytes.length
  let s1 := s.setPool { s.pool with
    frames := Table.put s.pool.nextRef ⟨c, accepting.length, o, bytes⟩ s.pool.frames
    nextRef := s.pool.nextRef + 1
    inUse := s.pool.inUse.set c (s.pool.inUse.get c + n) }
  accepting.foldl (fun t p => t.joinQueue c s.pool.nextRef p) s1

/-- What becomes of a frame offered for admission. -/
inductive Admission
  /-- stored under this reference -/
  | stored (ref : Nat)
  /-- refused; nothing is stored -/
  | refused
  deriving DecidableEq, Repr

/-- Whether the frame was admitted. -/
def Admission.taken : Admission → Bool
  | .stored _ => true
  | .refused => false

/-- The ports whose queue takes the frame (R36 step 1). -/
def State.accepting (s : State) (c : OutClass) (targets : List PortId) : List PortId := targets.filter (s.takesCopy c)

/-- Whether R36 steps 3 and 4 let a frame of class `c` and `n` cells in. -/
def State.roomFor (s : State) (c : OutClass) (n : Nat) : Bool :=
  (decide (c ≠ .guest) || decide (s.pool.inUse.guest + n ≤ s.settings.queue.guestCap)) &&
  decide (n + shortfallSum s.settings.queue (s.pool.inUse.set c (s.pool.inUse.get c + n)) ≤ s.freeCells)

/-- Admission of a frame whole (R36): the state after it, what became of it, and the events to count, in order.
While Loading nothing is admitted and nothing is counted. -/
def State.admitFrame (s : State) (c : OutClass) (o : Origin) (bytes : List Byte) (targets : List PortId) :
    State × Admission × List EventKind :=
  if s.loading then (s, .refused, [])
  else
    let accepting := s.accepting c targets
    let lost := List.replicate (targets.length - accepting.length) EventKind.queueDrop
    if accepting.isEmpty then (s, .refused, lost)
    else if s.roomFor c (cellsOf bytes.length) then
      (s.storeFrame c o bytes accepting, .stored s.pool.nextRef, lost)
    else (s, .refused, lost ++ [.cellDrop])

/-! ### Event counts and notices (10.5) -/

/-- A counter raised by `n`, saturating at 65,535 (R189). -/
def State.raise (s : State) (k : EventKind) (n : Nat) : State :=
  s.setEvents { s.events with counters := s.events.counters.set (kindIndex k) (min (s.counter k + n) 65535) }

/-- The three conditions of R190: controller Present, CTL's Link Up, image not Loading. -/
def State.noticesOpen (s : State) : Bool := s.management.supervision.present && s.isUp .ctl && !s.loading

/-- The bytes of an Event Notice for a kind, as it is built now (R190, R204). -/
def State.noticeBytes (s : State) (k : EventKind) : List Byte :=
  buildMessage 0x62 (s.management.supervision.station.getD broadcast) s.managementAddress s.events.noticeNumber
    (be 1 ((kindIndex k).val + 1) ++ [0#8] ++ be 2 (s.counter k))

/-- An Event Notice offered to CTL: the Notice Number rises with it (R190). Its tag is the number before the rise, so that the
first after reset carries 0: the spec does not say which (the model's choice, log 50). Answers the state and the drops to
count. -/
def State.offerNotice (s : State) (k : EventKind) : State × List EventKind :=
  let r := s.admitFrame .control .generated (s.noticeBytes k) [.ctl]
  (r.1.setEvents { r.1.events with noticeNumber := wrap16 s.events.noticeNumber }, r.2.2)

/-- Events counted, with the notice or the Notice Owed mark that each rise from 0 brings (R189, R190). A refused notice is
itself counted as a drop, which may bring a notice of its own; `fuel` bounds that chain, which ends when both drop counters
are nonzero. -/
def State.countWith : Nat → EventKind → Nat → State → State
  | 0, k, n, s => s.raise k n
  | fuel + 1, k, n, s =>
    if s.counter k = 0 ∧ n ≠ 0 ∧ s.notifies k = true then
      if s.noticesOpen then
        let r := (s.raise k n).offerNotice k
        r.2.foldl (fun t d => State.countWith fuel d 1 t) r.1
      else (s.raise k n).setOwed k true
    else s.raise k n

/-- `n` events of a kind counted in one rise (RECOVERY-LOSS, R189). -/
def State.countBy (s : State) (k : EventKind) (n : Nat) : State := State.countWith 4 k n s

/-- One event counted. -/
def State.count (s : State) (k : EventKind) : State := s.countBy k 1

/-- Events counted one after another. -/
def State.countAll (s : State) (ks : List EventKind) : State := ks.foldl State.count s

/-- The notices owed, offered in kind number order, each mark cleared; a kind whose counter is 0 gives none (R190). -/
def State.offerOwedFrom : List EventKind → State → State
  | [], s => s
  | k :: ks, s =>
    if s.isOwed k then
      let s1 := s.setOwed k false
      if s.counter k = 0 then State.offerOwedFrom ks s1
      else
        let r := s1.offerNotice k
        State.offerOwedFrom ks (r.1.countAll r.2)
    else State.offerOwedFrom ks s

/-- What R190 does whenever its three conditions come to hold together again. -/
def State.offerOwed (s : State) : State := if s.noticesOpen then State.offerOwedFrom allKinds s else s

/-! ### Frames the part builds (R204) -/

/-- A frame offered for admission with its drops counted after it (R36, R38, log 12). -/
def State.offer (s : State) (c : OutClass) (o : Origin) (bytes : List Byte) (targets : List PortId) : State × Admission :=
  let r := s.admitFrame c o bytes targets
  (r.1.countAll r.2.2, r.2.1)

/-- A part-generated Control class message built now and offered to one port (R32, R204). -/
def State.send (s : State) (kind : Nat) (p : PortId) (dst : Station) (tag : Nat) (body : List Byte) : State × Admission :=
  s.offer .control .generated (buildMessage kind dst s.managementAddress tag body) [p]

/-- The head-office station as a destination: a free value while none is configured (R186, R204, log 11). -/
def State.headOfficeStation (s : State) : Station := s.settings.management.headOffice.getD (Config.freeStation s.freeUsed)

/-- A free value counted as drawn where the head-office station is absent (log 11). -/
def State.drawStation (s : State) : State :=
  if s.settings.management.headOffice.isNone then s.setFreeUsed (s.freeUsed + 1) else s

/-- A message to head office, offered to UP (R204). -/
def State.sendHeadOffice (s : State) (kind tag : Nat) (body : List Byte) : State :=
  ((s.send kind .up s.headOfficeStation tag body).1).drawStation

/-! ### Release (R40, R41) -/

/-- Whether a block waits (R39). -/
def Session.anyWaiting (x : Session) : Bool :=
  x.outstanding.any (fun b => match b.condition with
    | .waiting _ => true
    | .offered => false)

/-- A release notice to the Night Link Engine, which acts on it while a block waits (R39, R149). -/
def State.noticeRelease (s : State) : State :=
  if s.session.anyWaiting then s.setSession { s.session with releaseNotice := true } else s

/-- The Management Unit told that a copy of a part-generated frame ended: a pending restart whose response it was begins
(R40, R195). -/
def State.copyEnded (s : State) (ref : Nat) : State :=
  match s.management.restart with
  | some r => if r.response = some ref then s.onManagement (fun m => { m with restart := some { r with response := none } }) else s
  | none => s

/-- A copy of a stored frame ends: Copies falls by 1, and at 0 the cells return and a release notice is given (R33, R40). -/
def State.endCopy (s : State) (ref : Nat) : State :=
  match s.pool.frames.get? ref with
  | none => s
  | some f =>
    let s1 :=
      if f.copies ≤ 1 then
        (s.setPool { s.pool with
          frames := Table.del ref s.pool.frames
          inUse := s.pool.inUse.set f.cls (s.pool.inUse.get f.cls - cellsOf f.bytes.length) }).noticeRelease
      else s.setPool { s.pool with frames := Table.put ref { f with copies := f.copies - 1 } s.pool.frames }
    match f.origin with
    | .generated => s1.copyEnded ref
    | .forwarded => s1

/-- All copies of a port: the one in transmission, then its queues' entries in class order. -/
def PortState.copies (p : PortState) : List Nat :=
  p.sending.toList ++ p.queues.control ++ p.queues.till ++ p.queues.label ++ p.queues.bulk ++ p.queues.guest

/-- A port's output queues discarded at once, a copy in transmission abandoned and the deficit state reset (R41, R44). -/
def State.discardQueues (s : State) (p : PortId) : State :=
  let old := s.port p
  let s1 := s.setPort p { old with queues := emptyQueues, sending := none, drr := resetDrr }
  let s2 := old.copies.foldl State.endCopy s1
  if p = .up ∧ old.queues.bulk ≠ [] then s2.noticeRelease else s2

/-! ### Messages handed on (R19) -/

/-- The oldest message handed on from a port and not yet taken. -/
def State.firstHanded (s : State) (p : PortId) : Option (List Byte) :=
  (s.handed.find? (fun h => decide (h.port = p))).map Handed.frame

/-- The messages handed on without the oldest of a port. -/
def dropFirst (p : PortId) : List Handed → List Handed
  | [] => []
  | h :: hs => if h.port = p then hs else h :: dropFirst p hs

/-- The oldest message of a port taken from those handed on. -/
def State.takeHanded (s : State) (p : PortId) : State := s.setHanded (dropFirst p s.handed)

/-- A serving block takes the oldest message handed on from a port, if it is one of its row's kind; otherwise no such
message stands first and the row does nothing (log 2). -/
def takeMessage (p : PortId) (kind : Nat) (serve : List Byte → State → State) (s : State) : State :=
  match s.firstHanded p with
  | some f => if frameKind f = kind then serve f (s.takeHanded p) else s
  | none => s

end Sys2Proof.Machine
end

