-- ==== Sys2Proof/Machine/Labels.lean ====
section
/-! DEFINITION. The Label Engine (chapter 6): the Shelf Floor, label work and the Work Queues, link states, superframes,
updates and reports, and the label operations. -/

namespace Sys2Proof.Machine

/-! ### Labels and items -/

/-- The label record made or replaced at an index. -/
def State.putLabel (s : State) (i : Nat) (l : Label) : State := s.setLabels (Table.put i l s.labels)

/-- The item record made or replaced at an index. -/
def State.putItem (s : State) (i : Nat) (it : Item) : State := s.setItems (Table.put i it s.items)

/-- The index and record of a Label ID. -/
def State.findLabel (s : State) (id : Nat) : Option (Nat × Label) := s.labels.findBy (fun l => decide (l.id = id))

/-- The index and record of an item code: the code index (R51). -/
def State.findItem (s : State) (code : Nat) : Option (Nat × Item) := s.items.findBy (fun it => decide (it.code = code))

/-- The Active Price of the item a label is attached to. -/
def State.activeFor (s : State) (l : Label) : Option Nat := l.item.bind (fun i => (s.items.get? i).bind Item.active)

/-- The lower of two optional prices; an absent one holds nothing down. -/
def lowerPrice : Option Nat → Option Nat → Option Nat
  | some a, some b => some (min a b)
  | some a, none => some a
  | none, b => b

/-- The lowest known Shown Price among labels named by ID (R98). -/
def State.lowestShown (s : State) (ids : List Nat) : Option Nat :=
  ids.foldl (fun acc id => lowerPrice acc ((s.findLabel id).bind (fun p => p.2.shown))) none

/-- The Shelf Floor of an item recomputed (R98). -/
def State.refloor (s : State) (i : Nat) : State :=
  match s.items.get? i with
  | some it => s.putItem i { it with floor := s.lowestShown it.labels }
  | none => s

/-- The Shelf Floor of the item a label is attached to recomputed. -/
def State.refloorFor (s : State) (l : Label) : State :=
  match l.item with
  | some i => s.refloor i
  | none => s

/-! ### Work Queues (R99) -/

/-- Whether a link's queue has room. -/
def State.queueRoom (s : State) (l : LinkId) : Bool := decide ((s.link l).queue.length < 512)

/-- A label joins its queue's tail as Queued, or becomes Stale where the queue is full, which counts LABEL-STALE where
`counted` says so. Its Attempts takes the value given. -/
def State.toWork (s : State) (i : Nat) (l : Label) (attempts : Nat) (counted : Bool) : State :=
  if s.queueRoom l.link then
    (s.setLink l.link { s.link l.link with queue := (s.link l.link).queue ++ [i] }).putLabel i
      { l with state := .queued, attempts := attempts }
  else
    let s1 := s.putLabel i { l with state := .stale, attempts := attempts }
    if counted then s1.count .labelStale else s1

/-- A label's update is no longer in flight: it leaves the order of sending. -/
def State.unsend (s : State) (i : Nat) (l : LinkId) : State :=
  s.setLink l { s.link l with sentOrder := (s.link l).sentOrder.filter (fun j => decide (j ≠ i)) }

/-- A label's state changed, its other fields kept. -/
def State.setLabelState (s : State) (i : Nat) (st : LabelState) : State :=
  match s.labels.get? i with
  | some l => s.putLabel i { l with state := st }
  | none => s

/-- A price notice reaches one label of the item (R100). -/
def State.noticeLabel (s : State) (id : Nat) : State :=
  match s.findLabel id with
  | none => s
  | some (i, l) =>
    match l.state with
    | .current => s.toWork i l 0 true
    | .stale => if s.queueRoom l.link then s.toWork i l 0 false else s
    | .queued | .sent _ _ | .lost | .unassigned => s

/-- A price notice for the item at an index (R66, R100). -/
def State.priceNotice (s : State) (i : Nat) : State :=
  match s.items.get? i with
  | some it => it.labels.foldl State.noticeLabel s
  | none => s

/-! ### Detaching (R95) -/

/-- A label leaves its Work Queue, the other entries keeping their order. -/
def State.unqueue (s : State) (i : Nat) (l : LinkId) : State :=
  s.setLink l { s.link l with queue := (s.link l).queue.filter (fun j => decide (j ≠ i)) }

/-- The entry a label's state gives it in its link's record is taken away. -/
def State.leaveWork (s : State) (i : Nat) (l : Label) : State :=
  match l.state with
  | .queued => s.unqueue i l.link
  | .sent _ _ => s.unsend i l.link
  | .unassigned | .current | .stale | .lost => s

/-- A label detached in one step (R95). The item's Shelf Floor is recomputed unless the item is being removed. -/
def State.detach (s : State) (i : Nat) (l : Label) (itemRemoved : Bool) : State :=
  let s1 := s.leaveWork i l
  let s2 := s1.putLabel i { l with item := none, attempts := 0, state := .unassigned }
  match l.item with
  | none => s2
  | some k =>
    match s2.items.get? k with
    | none => s2
    | some it =>
      let s3 := s2.putItem k { it with labels := it.labels.filter (fun id => decide (id ≠ l.id)) }
      if itemRemoved then s3 else s3.refloor k

/-- A label named by ID detached because its item is being removed (R65, R136). -/
def State.detachRemoved (s : State) (id : Nat) : State :=
  match s.findLabel id with
  | some (i, l) => s.detach i l true
  | none => s

/-- An item removed: its labels are detached, its index is freed and its code leaves the code index (R51, R65, R136). -/
def State.removeItem (s : State) (k : Nat) (it : Item) : State :=
  let s1 := it.labels.foldl State.detachRemoved s
  s1.setItems (Table.del k s1.items)

/-! ### Link states (6.5) -/

/-- A link's Sent labels return to the head of its queue, the earliest sent first; those without room become Stale with
LABEL-STALE counted for each (R104). -/
def State.returnSent (s : State) (l : LinkId) : State :=
  let r := s.link l
  let room := 512 - r.queue.length
  let s1 := s.setLink l { r with queue := r.sentOrder.take room ++ r.queue, sentOrder := [] }
  let s2 := (r.sentOrder.take room).foldl (fun t i => t.setLabelState i .queued) s1
  (r.sentOrder.drop room).foldl (fun t i => (t.setLabelState i .stale).count .labelStale) s2

/-- A link's state changed; a link that leaves Ready gives up its Sent labels in the same step (R104). -/
def State.moveLink (s : State) (l : LinkId) (st : LinkState) : State :=
  let s1 := s.setLink l { s.link l with state := st }
  if (s.link l).state = .ready ∧ st ≠ .ready then s1.returnSent l else s1

/-- A Silent or Ready link whose check-error count is at or above the fault threshold becomes Faulted, and LINK-FAULT is counted
(R107), after the LABEL-STALE of labels that find no room as they return (R104): the order is the model's choice (log 44). -/
def State.checkFault (s : State) (l : LinkId) : State :=
  if ((s.link l).state = .silent ∨ (s.link l).state = .ready) ∧
      s.settings.labels.faultThreshold ≤ (s.link l).checkErrors then
    (s.moveLink l .faulted).count .linkFault
  else s

/-- A link enters Silent with its missed-beacon count 0, or Faulted in its place (R105). R105 gives the 0 on entering Silent and
does not say whether a link that enters Faulted instead has it too: both have it (the model's choice, log 67). -/
def State.enterSilent (s : State) (l : LinkId) : State :=
  let s1 := s.moveLink l .silent
  (s1.setLink l { s1.link l with missed := 0 }).checkFault l

/-- A check error of a link (R107). -/
def State.checkError (s : State) (l : LinkId) : State :=
  (s.setLink l { s.link l with checkErrors := bump16 (s.link l).checkErrors }).checkFault l

/-- Whether superframes can start: the image is not Loading, and the source is external or P is nonzero (R105, R109). A Beacon
Once that waits while the source is internal and P is 0 does not make them able to: the model's choice (log 40). -/
def State.superframesCanStart (s : State) : Bool :=
  !s.loading && (s.settings.labels.external || decide (s.settings.labels.period ≠ 0))

/-- Whether the internal pacer runs (R109). -/
def State.pacerRuns (s : State) : Bool := !s.settings.labels.external && decide (s.settings.labels.period ≠ 0)

/-- An Off link whose port's Link is Up comes out of Off (R105). -/
def State.bringUp (s : State) (l : LinkId) : State :=
  if (s.link l).state = .off ∧ s.isUp (.b l) = true then s.enterSilent l else s

/-- An Off link comes out of Off where superframes can start (R105). -/
def State.bringUpIfPaced (s : State) (l : LinkId) : State := if s.superframesCanStart then s.bringUp l else s

/-- A link that is not Off goes Off (R105). -/
def State.goOff (s : State) (l : LinkId) : State := if (s.link l).state = .off then s else s.moveLink l .off

/-! ### Superframes (6.6, 6.7) -/

/-- A label handled as NoContact: its update has ended, Attempts rises, and it is Lost at 5 or queued again (R117). -/
def State.noContact (s : State) (i : Nat) (l : Label) : State :=
  let s1 := s.unsend i l.link
  if 5 ≤ l.attempts + 1 then (s1.putLabel i { l with state := .lost, attempts := l.attempts + 1 }).count .labelLost
  else s1.toWork i l (l.attempts + 1) true

/-- Whether a label is Sent with its Sent Count 4 below the superframe count (R114 step 3). -/
def State.pastDeadline (s : State) (l : Label) : Bool :=
  match l.state with
  | .sent _ c => decide ((s.pacer.count + 4294967296 - c) % 4294967296 = 4)
  | .unassigned | .current | .queued | .stale | .lost => false

/-- A label whose deadline has passed is handled as NoContact (R114 step 3, R117). -/
def State.deadline (s : State) (i : Nat) : State :=
  match s.labels.get? i with
  | some l => if s.pastDeadline l then s.noContact i l else s
  | none => s

/-- A Ready link whose missed-beacon count stands at 3 becomes Silent, and LINK-SILENT is counted (R106, R114 step 1), after
the LABEL-STALE of labels that find no room as they return (R104): the order is the model's choice (log 44). -/
def State.silence (s : State) (l : LinkId) : State :=
  if (s.link l).state = .ready ∧ (s.link l).missed = 3 then (s.enterSilent l).count .linkSilent else s

/-- Labels taken from a queue's head, label by label, until the budget has been made Sent (R114 step 4). Answers the state,
the labels made Sent in order, and the entries left. -/
def takeLabels : List Nat → Nat → State → State × List Nat × List Nat
  | [], _, s => (s, [], [])
  | i :: q, 0, s => (s, [], i :: q)
  | i :: q, b + 1, s =>
    match s.labels.get? i with
    | none => takeLabels q (b + 1) s
    | some l =>
      match s.activeFor l with
      | none => takeLabels q (b + 1) (s.putLabel i { l with state := .stale })
      | some price =>
        if l.shown = some price then
          takeLabels q (b + 1) (s.putLabel i { l with state := .current, attempts := 0 })
        else
          let r := takeLabels q b (s.putLabel i { l with state := .sent price s.pacer.count })
          (r.1, i :: r.2.1, r.2.2)

/-- The entry of a Label Update for a Sent label: its ID and Pending Price (11.3). -/
def State.updateEntry (s : State) (i : Nat) : List Byte :=
  match s.labels.get? i with
  | some l =>
    match l.state with
    | .sent price _ => be 4 l.id ++ be 4 price
    | .unassigned | .current | .queued | .stale | .lost => be 4 l.id ++ be 4 0
  | none => be 8 0

/-- The tag of Beacons and Label Updates: the low 16 bits of the superframe count (R204). -/
def State.superframeTag (s : State) : Nat := s.pacer.count % 65536

/-- The update of a Ready link whose Beacon was admitted (R114 step 4). -/
def State.labelUpdate (s : State) (l : LinkId) : State :=
  let r := takeLabels (s.link l).queue s.settings.labels.slotBudget s
  let s1 := r.1.setLink l { r.1.link l with queue := r.2.2, sentOrder := (r.1.link l).sentOrder ++ r.2.1 }
  if r.2.1.isEmpty then s1
  else
    let body := be 2 s.pacer.number ++ be 1 r.2.1.length ++ [0#8] ++ r.2.1.flatMap s1.updateEntry
    let o := s1.send 0x21 (.b l) broadcast s.superframeTag body
    if o.2.taken then o.1
    else
      let s2 := r.2.1.foldl (fun t i => t.setLabelState i .queued) o.1
      s2.setLink l { s2.link l with queue := r.2.1 ++ r.2.2, sentOrder := (r.1.link l).sentOrder }

/-- The work of a superframe start on one link that is not Off (R114). Several labels whose deadlines pass at one start are
handled in the order in which they were sent, an order the spec does not give (the model's choice, log 39). -/
def State.linkSuperframe (s : State) (l : LinkId) : State :=
  if (s.link l).state = .off then s
  else
    let s1 := s.silence l
    let o := s1.send 0x20 (.b l) broadcast s.superframeTag (be 2 s.pacer.number ++ beMoment s.clock.now)
    let s2 := if o.2.taken then o.1.setLink l { o.1.link l with missed := min ((o.1.link l).missed + 1) 3 } else o.1
    let s3 := (s2.link l).sentOrder.foldl State.deadline s2
    if o.2.taken = true ∧ (s3.link l).state = .ready then s3.labelUpdate l else s3

/-- The next Superframe Number (R111). -/
def nextNumber (max number : Nat) : Nat := if max = 0 then 0 else if number = 0 ∨ max ≤ number then 1 else number + 1

/-- A superframe starts (R111, R114): the count and Number advance, BEACON OUT pulses, and each link does its work, B0 before
B1: the spec gives the two no order, though both offer frames to the one pool (the model's choice, log 45). -/
def State.superframeStart (s : State) : State :=
  let count := (s.pacer.count + 1) % 4294967296
  let number := nextNumber s.settings.labels.max s.pacer.number
  let s1 := (s.setPacer { s.pacer with
    count := count, number := number, window := (count, number) :: s.pacer.window.take 3 }).setBeaconPulses (s.beaconPulses + 1)
  (s1.linkSuperframe .b0).linkSuperframe .b1

/-- Whether a superframe is due from the internal pacer (R109). -/
def State.superframeDue (s : State) : Bool := !s.loading && s.pacerRuns && decide (s.pacer.timeLeft = 0)

/-- PACER_EXPIRY: at Time Left 0 the next superframe starts; its length is worked out from P and the Remainder (R109). Where
a settings write stops the pacer, or a reset comes, between the advance that brought Time Left to 0 and this row, it is not started
(the model's choice, log 65). -/
def State.pacerExpiry (s : State) : State :=
  if s.superframeDue then
    (s.setPacer { s.pacer with
      timeLeft := (s.settings.labels.period + s.pacer.remainder) / 16
      remainder := (s.settings.labels.period + s.pacer.remainder) % 16 }).superframeStart
  else s

/-- The meaning of PACER_EXPIRY (R109). -/
def execPacerExpiry (s : State) : Host.Outcome State Fault Refusal := .next s.pacerExpiry

/-- The meaning of BEACON_IN_EDGE (R113): ignored while the source is internal or the image is Loading. -/
def execBeaconInEdge (s : State) : Host.Outcome State Fault Refusal :=
  .next (if s.settings.labels.external && !s.loading then s.superframeStart else s)

/-- Whether a superframe start is at hand, at which a link may fall silent: one is due, or the edges of BEACON IN start them
(R106, R113, log 17). -/
def State.superframeAtHand (s : State) : Bool := s.superframeDue || (s.settings.labels.external && !s.loading)

/-- The meaning of LINK_SILENCE (R106): step 1 of a superframe start that is at hand (log 17). -/
def execLinkSilence (l : LinkId) (s : State) : Host.Outcome State Fault Refusal :=
  .next (if s.superframeAtHand then s.silence l else s)

/-- The meaning of LABEL_DEADLINE (R114, R117): the label at an index past its deadline (log 17). -/
def execLabelDeadline (index : Nat) (s : State) : Host.Outcome State Fault Refusal := .next (s.deadline index)

/-! ### Reports (6.8) -/

/-- The Superframe Number paired in the window with a Sent Count (R111). -/
def State.numberOf (s : State) (count : Nat) : Option Nat :=
  (s.pacer.window.find? (fun p => decide (p.1 = count))).map Prod.snd

/-- Whether an entry that names this label and Superframe Number matches, arriving on link `l` (R115). -/
def State.entryMatches (s : State) (l : LinkId) (lab : Label) (number : Nat) : Bool :=
  decide (lab.link = l) &&
  match lab.state with
  | .sent _ c => decide (s.settings.labels.max = 0) || decide (s.numberOf c = some number)
  | .unassigned | .current | .queued | .stale | .lost => false

/-- A matching Shown entry (R116). -/
def State.shownEntry (s : State) (i : Nat) (l : Label) (price : Nat) : State :=
  let l1 : Label := { l with shown := some price, attempts := 0, state := .current }
  let s1 := ((s.unsend i l.link).putLabel i l1).refloorFor l1
  if s1.activeFor l1 = some price then s1 else s1.toWork i l1 0 true

/-- A matching Rejected entry (R117). -/
def State.rejectedEntry (s : State) (i : Nat) (l : Label) : State :=
  ((s.unsend i l.link).putLabel i { l with state := .lost }).count .labelLost

/-- The further effect of a late Shown entry for an attached label of the arrival link (R118). -/
def State.lateShown (s : State) (i : Nat) (l : Label) (price : Nat) : State :=
  let l1 : Label := { l with shown := some price }
  let s1 := (s.putLabel i l1).refloorFor l1
  if l.state = .current ∧ s1.activeFor l1 ≠ some price then s1.toWork i l1 0 true else s1

/-- A late entry (R118). -/
def State.lateEntry (s : State) (l : LinkId) (found : Option (Nat × Label)) (result price : Nat) : State :=
  let s1 := s.count .labelLate
  match found with
  | some (i, lab) => if result = 0 ∧ lab.link = l ∧ lab.item.isSome = true then s1.lateShown i lab price else s1
  | none => s1

/-- One entry of a Label Report taken (R115): Label ID, Superframe Number, result, echoed price. -/
def State.reportEntry (s : State) (l : LinkId) (e : List Byte) : State :=
  let found := s.findLabel (fieldAt e 0 4)
  let result := fieldAt e 6 1
  let price := fieldAt e 8 4
  match found with
  | some (i, lab) =>
    if s.entryMatches l lab (fieldAt e 4 2) then
      if result = 0 then s.shownEntry i lab price
      else if result = 1 then s.noContact i lab
      else s.rejectedEntry i lab
    else s.lateEntry l found result price
  | none => s.lateEntry l found result price

/-- Whether an entry's result and echoed price lie within their lists (R203 step 5). -/
def reportEntryOk (e : List Byte) : Bool :=
  decide (fieldAt e 6 1 ≤ 2) && (decide (fieldAt e 6 1 ≠ 0) || decide (fieldAt e 8 4 ≤ maxPrice))

/-- The entries of a Label Report that passes the checks of R203; none for one that fails. -/
def reportEntries? (f : List Byte) : Option (List (List Byte)) :=
  let body := frameBody f
  let n := fieldAt body 0 1
  let entries := piecesAt body 2 12 n
  if envelopeOk f && decide (1 ≤ n) && decide (n ≤ 16) && decide (body.length = 2 + 12 * n) && entries.all reportEntryOk
  then some entries else none

/-- A Label Report handed on is taken (R115). -/
def State.takeLabelReport (l : LinkId) (f : List Byte) (s : State) : State :=
  if s.isUp (.b l) then
    match reportEntries? f with
    | some es => es.foldl (fun t e => t.reportEntry l e) s
    | none => s.checkError l
  else s

/-- The meaning of LABEL_REPORT (R115). -/
def execLabelReport (l : LinkId) (s : State) : Host.Outcome State Fault Refusal :=
  .next (takeMessage (.b l) 0x22 (State.takeLabelReport l) s)

/-- A Station Status handed on is taken (R106). -/
def State.takeStationStatus (l : LinkId) (f : List Byte) (s : State) : State :=
  if s.isUp (.b l) then
    if envelopeOk f && decide ((frameBody f).length = 0) then
      let r := s.link l
      s.setLink l { r with missed := 0, state := if r.state = .silent then .ready else r.state }
    else s.checkError l
  else s

/-- The meaning of STATION_STATUS (R106). -/
def execStationStatus (l : LinkId) (s : State) : Host.Outcome State Fault Refusal :=
  .next (takeMessage (.b l) 0x23 (State.takeStationStatus l) s)

/-! ### The Stale Scan (R102) -/

/-- Whether a label is a Stale label of the link whose item is live. -/
def State.staleLive (s : State) (l : LinkId) (lab : Label) : Bool :=
  decide (lab.link = l) && decide (lab.state = .stale) && (s.activeFor lab).isSome

/-- Whether a link's Stale Scan runs. -/
def State.staleScanRuns (s : State) (l : LinkId) : Bool :=
  s.queueRoom l && s.labels.any (fun kv => s.staleLive l kv.2)

/-- One examination of a link's Stale Scan (R102). -/
def State.staleScanStep (s : State) (l : LinkId) : State :=
  if s.staleScanRuns l then
    let pos := (s.link l).scanPosition
    let s1 := match s.labels.get? pos with
      | some lab => if s.staleLive l lab then s.toWork pos lab lab.attempts false else s
      | none => s
    s1.setLink l { s1.link l with scanPosition := if pos < 8191 then pos + 1 else 0 }
  else s

/-- The meaning of STALE_SCAN_STEP (R102). -/
def execStaleScanStep (l : LinkId) (s : State) : Host.Outcome State Fault Refusal := .next (s.staleScanStep l)

/-! ### The Label Engine at a Soft Restart (R120) -/

/-- A label at a Soft Restart: a Sent label becomes Queued, its Attempts kept. -/
def restartLabel (l : Label) : Label :=
  match l.state with
  | .sent _ _ => { l with state := .queued }
  | .unassigned | .current | .queued | .stale | .lost => l

/-- The Queued labels of a link in ascending label index order. -/
def queuedIndices (t : Table Label) (l : LinkId) : List Nat :=
  (t.filter (fun kv => decide (kv.2.link = l) && decide (kv.2.state = .queued))).map Prod.fst

/-- The labels beyond 512 of a link's rebuilt queue become Stale, LABEL-STALE counted for each. -/
def State.rebuildQueue (s : State) (l : LinkId) : State :=
  let is := queuedIndices s.labels l
  let s1 := s.setLink l { s.link l with queue := is.take 512, sentOrder := [], missed := 0, scanPosition := 0 }
  (is.drop 512).foldl (fun t i => (t.setLabelState i .stale).count .labelStale) s1

/-- The link state after a Soft Restart: Silent or Faulted where superframes can start, else Off. -/
def State.restartLink (s : State) (l : LinkId) : State :=
  (s.setLink l { s.link l with state := .off }).bringUpIfPaced l

/-- The Label Engine at a Soft Restart (R120): both queues are rebuilt, B0's first, and then both links restart, B0 first, so that
LABEL-STALE is counted before LINK-FAULT; the spec gives these no order (the model's choice, logs 45 and 53). R120 gives Time Left
where the pacer runs; where it does not, Time Left is set to 1 all the same, which nothing reads (the model's choice, log 6). -/
def State.restartLabels (s : State) : State :=
  let s1 := s.setLabels (s.labels.mapRecords restartLabel)
  let s2 := s1.setPacer { s1.pacer with
    remainder := 0, timeLeft := 1, oncePending := false, window := [] }
  let s3 := (s2.rebuildQueue .b0).rebuildQueue .b1
  (s3.restartLink .b0).restartLink .b1

end Sys2Proof.Machine
end

