-- ==== Sys2Proof/Machine/Requests.lean ====
section
/-! DEFINITION. Taking a Control Request and answering it (10.1 to 10.3), and the label operations of chapter 6. -/

namespace Sys2Proof.Machine

/-- Control Response statuses (R184). -/
inductive Status
  | done
  | busy
  | barred
  | range
  | state
  | unknown
  | full
  | notOwner
  deriving DecidableEq, Repr

/-- The code of a status (11.2). -/
def statusCode : Status → Nat
  | .done => 0
  | .busy => 1
  | .barred => 2
  | .range => 3
  | .state => 4
  | .unknown => 5
  | .full => 6
  | .notOwner => 7

/-- What an operation's own rule answers: the state, the status and the results of a Done. -/
abbrev Reply := State × Status × List Byte

/-- A refusal: the state is left as it was and no results follow (R184). -/
def refuse (s : State) (st : Status) : Reply := (s, st, [])

/-- The operation numbers of 10.2. -/
def operationNumbers : List Nat :=
  [1, 2, 3, 4, 16, 17, 18, 32, 33, 34, 35, 36, 37, 38, 48, 49, 50, 51, 52, 53, 54, 64, 65, 66, 67, 68, 80, 81, 82,
   96, 97, 98, 99, 112, 113, 114]

/-- The read operations of 10.2; every other operation is a write. -/
def readOperations : List Nat := [1, 2, 33, 52, 68]

/-- The operation number of a request: the first body byte, if there is one (11.3). -/
def requestOperation (f : List Byte) : Option Nat :=
  if (frameBody f).isEmpty then none else some (fieldAt (frameBody f) 0 1)

/-- The parameters of a request: the body from offset 2 (11.3). A body of one byte, without the pad byte, has none and is taken as
whole by an operation with no parameters, which R203 leaves open (the model's choice, log 73). -/
def requestParameters (f : List Byte) : List Byte := (frameBody f).drop 2

/-- Whether the Remote Write Bar refuses an operation of a source (R185). -/
def State.barRefuses (s : State) (src : Source) (op : Nat) : Bool :=
  decide (src = .headOffice) && s.settings.management.writeBar && s.management.supervision.present &&
    !(readOperations.contains op)

/-- The setting codes that are controller-only (R186, 11.3). -/
def controllerOnlyCodes : List Nat := [27, 28, 31, 32, 33]

/-- The entries of a Queue Settings Write that its body carries whole (11.3): as many as its count and its bytes allow. Step 3
of R183 looks at these alone, so that a head-office write cut short inside an entry with a controller-only code is answered Range
and not Barred: R186 does not say whether such a write carries that setting (the model's choice, log 64). -/
def settingEntries (params : List Byte) : List (List Byte) :=
  piecesAt params 2 12 (min (fieldAt params 0 1) ((params.length - 2) / 12))

/-- Step 3 of R183: the request is one the source may send. -/
def sourceRefusal (src : Source) (op : Nat) (params : List Byte) : Option Status :=
  match src with
  | .controller => none
  | .headOffice =>
    if op = 112 then some .state
    else if op = 82 ∧ (settingEntries params).any (fun e => controllerOnlyCodes.contains (fieldAt e 0 1)) = true then some .barred
    else none

/-- A Control Response to a request, offered on its arrival port (R184, R204). -/
def State.respond (s : State) (src : Source) (f : List Byte) (op : Byte) (st : Status) (results : List Byte) :
    State × Admission :=
  s.send 0x61 (sourcePort src) (frameSource f) (frameTag f)
    ([op] ++ be 1 (statusCode st) ++ (if st = .done then results else []))

/-- A Control Request taken from CTL at step 4 sets the Controller Station (R187). -/
def State.noteController (s : State) (src : Source) (f : List Byte) : State :=
  match src with
  | .controller => s.onManagement (fun m => { m with supervision := { m.supervision with station := some (frameSource f) } })
  | .headOffice => s

/-- A management message error counted (R183 step b). -/
def State.managementError (s : State) : State := s.onManagement (fun m => { m with messageErrors := bump16 m.messageErrors })

/-- Steps 2 to 4 of R183 for a request with operation number `op`, served by its own rule. The Controller Station takes the source
of a request from CTL before the rule runs, so that the Event Notices which the request brings are addressed to that source: R187
gives the two no order (the model's choice, log 58). -/
def State.judge (s : State) (src : Source) (op : Nat) (serve : Source → List Byte → State → Reply) (f : List Byte) : Reply :=
  if s.barRefuses src op then refuse s .barred
  else
    match sourceRefusal src op (requestParameters f) with
    | some st => refuse s st
    | none => serve src (requestParameters f) (s.noteController src f)

/-- A request taken whole (R183): the state after it and, where it was answered, the status and what became of the
response. What the operation itself counts, with the Event Notices that follow, comes before the response: the spec gives the
two no order, though both may join CTL's Control queue (the model's choice, log 51). -/
def State.runRequest (s : State) (src : Source) (op : Nat) (serve : Source → List Byte → State → Reply) (f : List Byte) :
    State × Option (Status × Admission) :=
  if s.isUp (sourcePort src) then
    if envelopeOk f then
      let r := s.judge src op serve f
      let o := r.1.respond src f (BitVec.ofNat 8 op) r.2.1 r.2.2
      (o.1, some (r.2.1, o.2))
    else (s.managementError, none)
  else (s, none)

/-- Whether a handed-on message is a Control Request that no row of 10.2 takes. One with an empty body names no operation and is
taken as such, so that it is answered Unknown by step 1 of R183 and not Range by R184: the model's choice (log 10). -/
def isUnassigned (f : List Byte) : Bool :=
  decide (frameKind f = 0x60) &&
  match requestOperation f with
  | some op => !(operationNumbers.contains op)
  | none => true

/-- The operation number a response to an unassigned request carries: the one requested, or a free value where the body
names none (R184, log 10). -/
def State.echoOperation (s : State) (f : List Byte) : Byte :=
  match requestOperation f with
  | some op => BitVec.ofNat 8 op
  | none => Config.freeOperation s.freeUsed

/-- A free value counted as drawn where a request names no operation (log 10). -/
def State.drawOperation (s : State) (f : List Byte) : State :=
  if (requestOperation f).isNone then s.setFreeUsed (s.freeUsed + 1) else s

/-- The source a port's requests come from (4.5). -/
def portSource (p : PortId) : Source := if p = .ctl then .controller else .headOffice

/-- A Control Request with an unassigned operation number taken: Unknown at step 1 of R183. -/
def State.answerUnassigned (s : State) (p : PortId) (f : List Byte) : State :=
  if s.isUp p then
    if envelopeOk f then
      ((s.respond (portSource p) f (s.echoOperation f) .unknown []).1).drawOperation f
    else s.managementError
  else s

/-- The unassigned requests that stand first on a port, answered in their order, since no row takes them (log 3). -/
def State.serveUnassignedFrom : Nat → PortId → State → State
  | 0, _, s => s
  | n + 1, p, s =>
    match s.firstHanded p with
    | some f => if isUnassigned f then State.serveUnassignedFrom n p ((s.takeHanded p).answerUnassigned p f) else s
    | none => s

/-- The unassigned requests that stand first on a port answered. -/
def State.serveUnassigned (s : State) (p : PortId) : State := State.serveUnassignedFrom s.handed.length p s

/-- A row of 10.2 takes the oldest message of its source's port if that is its request (R183, log 2). -/
def takeRequest (src : Source) (op : Nat) (serve : Source → List Byte → State → Reply) (s : State) : State :=
  match s.firstHanded (sourcePort src) with
  | some f =>
    if frameKind f = 0x60 ∧ requestOperation f = some op then
      ((((s.takeHanded (sourcePort src)).runRequest src op serve f).1).serveUnassigned (sourcePort src))
    else s
  | none => s

/-! ### Label operations -/

/-- Label Attach (R94): Label ID, link, item code. -/
def serveLabelAttach (_src : Source) (params : List Byte) (s : State) : Reply :=
  let id := fieldAt params 0 4
  let code := fieldAt params 5 6
  if params.length < 11 ∨ id = 0 then refuse s .range
  else
    match linkOf? (fieldAt params 4 1) with
    | none => refuse s .range
    | some l =>
      if codeOk code = false then refuse s .range
      else
        match s.findItem code with
        | none => refuse s .unknown
        | some (k, it) =>
          let found := s.findLabel id
          if (found.isNone = true ∧ 8192 ≤ s.labels.length) ∨ (4 ≤ it.labels.length ∧ it.labels.contains id = false) then
            refuse s .full
          else
            let i := match found with
              | some (i, _) => i
              | none => s.labels.lowestFree
            let s1 := match found with
              | some (i, lab) => if lab.item.isSome then s.detach i lab false else s
              | none => s
            let old : Label := (s1.labels.get? i).getD ⟨id, l, none, none, 0, .unassigned⟩
            let lab : Label := { old with link := l, item := some k, shown := none, attempts := 0, state := .stale }
            let s2 := s1.putLabel i lab
            let s3 := match s2.items.get? k with
              | some it2 => s2.putItem k { it2 with labels := it2.labels ++ [id] }
              | none => s2
            let s4 := s3.refloor k
            let s5 := if (s4.activeFor lab).isSome then s4.toWork i lab 0 true else s4
            (s5, .done, be 2 i)

/-- The meaning of LABEL_ATTACH (R94). -/
def execLabelAttach (src : Source) (s : State) : Host.Outcome State Fault Refusal := .next (takeRequest src 48 serveLabelAttach s)

/-- Label Detach (R95): Label ID. -/
def serveLabelDetach (_src : Source) (params : List Byte) (s : State) : Reply :=
  let id := fieldAt params 0 4
  if params.length < 4 ∨ id = 0 then refuse s .range
  else
    match s.findLabel id with
    | none => refuse s .unknown
    | some (i, lab) => if lab.item.isNone then refuse s .state else (s.detach i lab false, .done, [])

/-- The meaning of LABEL_DETACH (R95). -/
def execLabelDetach (src : Source) (s : State) : Host.Outcome State Fault Refusal := .next (takeRequest src 49 serveLabelDetach s)

/-- Label Remove (R96): Label ID. -/
def serveLabelRemove (_src : Source) (params : List Byte) (s : State) : Reply :=
  let id := fieldAt params 0 4
  if params.length < 4 ∨ id = 0 then refuse s .range
  else
    match s.findLabel id with
    | none => refuse s .unknown
    | some (i, lab) =>
      let s1 := if lab.item.isSome then s.detach i lab false else s
      (s1.setLabels (Table.del i s1.labels), .done, [])

/-- The meaning of LABEL_REMOVE (R96). -/
def execLabelRemove (src : Source) (s : State) : Host.Outcome State Fault Refusal := .next (takeRequest src 50 serveLabelRemove s)

/-- Label Resend (R101): Label ID. A label put to fresh work takes Attempts 0 as Queued and as Stale (log 19). -/
def serveLabelResend (_src : Source) (params : List Byte) (s : State) : Reply :=
  let id := fieldAt params 0 4
  if params.length < 4 ∨ id = 0 then refuse s .range
  else
    match s.findLabel id with
    | none => refuse s .unknown
    | some (i, lab) =>
      match lab.state with
      | .unassigned => refuse s .state
      | .queued | .sent _ _ => (s, .done, [])
      | .current | .lost | .stale =>
        if (s.activeFor lab).isSome then (s.toWork i lab 0 true, .done, []) else (s, .done, [])

/-- The meaning of LABEL_RESEND (R101). -/
def execLabelResend (src : Source) (s : State) : Host.Outcome State Fault Refusal := .next (takeRequest src 51 serveLabelResend s)

/-- The code of a label state, in the order of R92's table (11.2). -/
def labelStateCode : LabelState → Nat
  | .unassigned => 0
  | .current => 1
  | .queued => 2
  | .sent _ _ => 3
  | .stale => 4
  | .lost => 5

/-- Pending Price, Sent Count and Superframe Number of a label, present while Sent (R93, R97). R97 does not call the Superframe
Number optional: it is written as an optional field, zeros where the label is not Sent (the model's choice, log 9). -/
def State.flightBytes (s : State) (lab : Label) : List Byte :=
  match lab.state with
  | .sent price count => beOption 4 (some price) ++ beOption 4 (some count) ++ beOption 2 (s.numberOf count)
  | .unassigned | .current | .queued | .stale | .lost => beOption 4 none ++ beOption 4 none ++ beOption 2 none

/-- What Label Read reports of a record: the label index, the fields of R92 in their order, the Superframe Number of a Sent
label and the item code of an attached one (R97). That the Superframe Number follows State, that the item code stands last and
not beside the Item Index, and that it is an optional field, zeros where the label is not attached, is the model's choice
(log 9). -/
def State.labelReadBytes (s : State) (i : Nat) (lab : Label) : List Byte :=
  be 2 i ++ be 4 lab.id ++ be 1 (linkIndex lab.link) ++ beOption 2 lab.item ++ beOption 4 lab.shown ++
  (s.flightBytes lab).take 10 ++ be 1 lab.attempts ++ be 1 (labelStateCode lab.state) ++ (s.flightBytes lab).drop 10 ++
  beOption 6 (lab.item.bind (fun k => (s.items.get? k).map Item.code))

/-- Label Read (R97): a selector, then a Label ID (0) or a label index (1) (log 9). -/
def serveLabelRead (_src : Source) (params : List Byte) (s : State) : Reply :=
  if fieldAt params 0 1 = 0 then
    let id := fieldAt params 1 4
    if params.length < 5 ∨ id = 0 then refuse s .range
    else
      match s.findLabel id with
      | some (i, lab) => (s, .done, s.labelReadBytes i lab)
      | none => refuse s .unknown
  else if fieldAt params 0 1 = 1 then
    let i := fieldAt params 1 2
    if params.length < 3 ∨ 8191 < i then refuse s .range
    else
      match s.labels.get? i with
      | some lab => (s, .done, s.labelReadBytes i lab)
      | none => refuse s .unknown
  else refuse s .range

/-- The meaning of LABEL_READ (R97). -/
def execLabelRead (src : Source) (s : State) : Host.Outcome State Fault Refusal := .next (takeRequest src 52 serveLabelRead s)

/-- Link Clear (R108): a link. -/
def serveLinkClear (_src : Source) (params : List Byte) (s : State) : Reply :=
  match linkOf? (fieldAt params 0 1) with
  | some l =>
    if params.length < 1 then refuse s .range
    else
      let r := s.link l
      if r.state = .faulted then (s.setLink l { r with checkErrors := 0, missed := 0, state := .silent }, .done, [])
      else (s.setLink l { r with checkErrors := 0 }, .done, [])
  | none => refuse s .range

/-- The meaning of LINK_CLEAR (R108). -/
def execLinkClear (src : Source) (s : State) : Host.Outcome State Fault Refusal := .next (takeRequest src 53 serveLinkClear s)

/-- Beacon Once (R110). B0 comes out of Off before B1 (the model's choice, log 45). -/
def serveBeaconOnce (_src : Source) (_params : List Byte) (s : State) : Reply :=
  if s.settings.labels.external = true ∨ s.settings.labels.period ≠ 0 then refuse s .state
  else if s.pacer.oncePending then refuse s .busy
  else (((s.setPacer { s.pacer with oncePending := true }).bringUp .b0).bringUp .b1, .done, [])

/-- The meaning of BEACON_ONCE (R110). -/
def execBeaconOnce (src : Source) (s : State) : Host.Outcome State Fault Refusal := .next (takeRequest src 54 serveBeaconOnce s)

end Sys2Proof.Machine
end

