-- ==== Sys2Proof/Machine/Prices.lean ====
section
/-! DEFINITION. The Price Service and the Load Transaction (chapter 4): the Ceiling, price queries, sign-on, immediate
changes and loads. -/

namespace Sys2Proof.Machine

/-! ### The Ceiling (R52) -/

/-- The Ceiling of an item: its Active Price, or its Shelf Floor where that is lower; a staged-only item has none. -/
def Item.ceiling (it : Item) : Option Nat :=
  match it.active, it.floor with
  | some p, some f => some (min p f)
  | some p, none => some p
  | none, _ => none

/-- The Basis of an item that has a Ceiling. -/
def Item.basis (it : Item) : Basis :=
  match it.active, it.floor with
  | some p, some f => if f < p then .shelf else .active
  | _, _ => .active

/-- The journal's Next Sequence, 4,294,967,296 when Exhausted (R86). -/
def Journal.nextValue (j : Journal) : Nat := j.nextSequence.getD 4294967296

/-- The oldest Journal Sequence held (R72). -/
def Journal.oldest (j : Journal) : Option Nat := if j.slots.isEmpty then none else some (j.nextValue - j.slots.length)

/-- The newest Journal Sequence held (R72). -/
def Journal.newest (j : Journal) : Option Nat := if j.slots.isEmpty then none else some (j.nextValue - 1)

/-! ### Price Query (4.2) -/

/-- A Price Service message error counted (R53 step 2). -/
def State.priceError (s : State) : State := s.setPriceErrors (bump16 s.priceErrors)

/-- The number and record of the till Signed-On on a T port (R56). -/
def State.tillOn (s : State) (n : Fin 16) : Option (Nat × Till) := s.tills.findBy (fun t => decide (t.port = some n))

/-- One entry of a Price Answer (11.3): code, result, flags, price. -/
def answerEntry (code result flags price : Nat) : List Byte := be 6 code ++ be 1 result ++ be 1 flags ++ be 4 price

/-- The result for one code of a taken query (R54): Priced 0, Blocked 1, Unknown 2. The byte of Weighed, Age-Check and Basis is 0
in every entry that is not Priced: 11.3 says so of the price alone, and R54 lists these for Priced only (the model's choice,
log 60). -/
def State.answerCode (s : State) (code : Nat) : List Byte :=
  match (if codeOk code then s.findItem code else none) with
  | none => answerEntry code 2 0 0
  | some (_, it) =>
    match it.ceiling with
    | none => answerEntry code 2 0 0
    | some c =>
      if it.flags.blocked then answerEntry code 1 0 0
      else answerEntry code 0
        (flagByte [it.flags.weighed, it.flags.ageCheck] + (if it.basis = .shelf then 128 else 0)) c

/-- The codes of a Price Query that passes step 2 of R53; none for one that fails. -/
def queryCodes? (f : List Byte) : Option (List Nat) :=
  let body := frameBody f
  let n := fieldAt body 0 1
  if envelopeOk f && decide (1 ≤ n) && decide (n ≤ 8) && decide (body.length = 2 + 6 * n) then
    some ((piecesAt body 2 6 n).map unbe)
  else none

/-- A Price Query handed on is taken (R53). A refusal is counted, and its Event Notice offered, before the Price Answer is
offered: the spec gives no order (the model's choice, log 37). The flag byte of a Refused entry is 0 (the model's choice, log 60). -/
def State.takePriceQuery (n : Fin 16) (f : List Byte) (s : State) : State :=
  if s.isUp (.t n) then
    match queryCodes? f with
    | none => s.priceError
    | some codes =>
      let refused := (s.tillOn n).isNone
      let entries := codes.flatMap (fun c => if refused then answerEntry c 3 0 0 else s.answerCode c)
      let s1 := if refused then s.count .tillRefused else s
      (s1.send 0x05 (.t n) (frameSource f) (frameTag f) (be 1 codes.length ++ [0#8] ++ entries)).1
  else s

/-- The meaning of PRICE_QUERY (R53). -/
def execPriceQuery (n : Fin 16) (s : State) : Host.Outcome State Fault Refusal :=
  .next (takeMessage (.t n) 0x04 (State.takePriceQuery n) s)

/-! ### Sign-On and Sign-Off (4.3) -/

/-- Results of a Sign-On (R57). -/
inductive SignOnResult
  | held
  | invalid
  | conflict
  | accepted
  | full
  deriving DecidableEq, Repr

/-- The code of a Sign-On result (11.3). -/
def signOnCode : SignOnResult → Nat
  | .held => 0
  | .invalid => 1
  | .conflict => 2
  | .accepted => 3
  | .full => 4

/-- The till Signed-On on a T port, if any, made Absent, its Last fields kept (R57, R60). -/
def absentOn (n : Fin 16) (t : Table Till) : Table Till :=
  t.mapRecords (fun r => if r.port = some n then { r with port := none } else r)

/-- A till Signed-On on a T port, where another till was Signed-On made Absent first (R57). -/
def State.signTillOn (s : State) (n : Fin 16) (number : Nat) (t : Till) : State :=
  s.setTills (Table.put number { t with port := some n } (absentOn n s.tills))

/-- Whether a till record may be reclaimed (R58). -/
def reclaimable (j : Journal) (t : Till) : Bool :=
  t.port.isNone &&
  match t.lastSequence with
  | none => true
  | some q =>
    match j.oldest, j.newest with
    | some o, some w => decide (q < o) || decide (w < q)
    | _, _ => true

/-- A Sign-On that passed its checks, for a till number on a T port (R57, R58). -/
def State.signOn (s : State) (n : Fin 16) (number : Nat) : State × SignOnResult :=
  if s.journal.scan.isSome then (s, .held)
  else if number = 0 ∨ 999 < number then (s, .invalid)
  else
    match s.tills.get? number with
    | some t =>
      match t.port with
      | some m => if m = n then (s, .accepted) else (s, .conflict)
      | none => (s.signTillOn n number t, .accepted)
    | none =>
      if s.tills.length < 32 then (s.signTillOn n number ⟨none, none, none⟩, .accepted)
      else
        match s.tills.findBy (reclaimable s.journal) with
        | some (old, _) => ((s.setTills (Table.del old s.tills)).signTillOn n number ⟨none, none, none⟩, .accepted)
        | none => (s, .full)

/-- The till number of a Sign-On or Sign-Off that passes step 2 of R53 (log 24). -/
def tillNumber? (f : List Byte) : Option Nat :=
  if envelopeOk f && decide ((frameBody f).length = 2) then some (fieldAt (frameBody f) 0 2) else none

/-- The body of a Sign-On Reply (11.3): the Last fields follow an Accepted alone. -/
def State.signOnReply (s : State) (number : Nat) (r : SignOnResult) : List Byte :=
  let t := if r = .accepted then s.tills.get? number else none
  be 1 (signOnCode r) ++ [0#8] ++ beOption 4 (t.bind Till.lastTransaction) ++ beOption 4 (t.bind Till.lastSequence)

/-- A Sign-On handed on is taken (R57). A refusal is counted, and its Event Notice offered, before the Sign-On Reply is
offered: the spec gives no order (the model's choice, log 37). -/
def State.takeSignOn (n : Fin 16) (f : List Byte) (s : State) : State :=
  if s.isUp (.t n) then
    match tillNumber? f with
    | none => s.priceError
    | some number =>
      let r := s.signOn n number
      let s1 := if r.2 = .invalid ∨ r.2 = .conflict ∨ r.2 = .full then r.1.count .tillRefused else r.1
      (s1.send 0x02 (.t n) (frameSource f) (frameTag f) (s1.signOnReply number r.2)).1
  else s

/-- The meaning of SIGN_ON (R57). -/
def execSignOn (n : Fin 16) (s : State) : Host.Outcome State Fault Refusal :=
  .next (takeMessage (.t n) 0x01 (State.takeSignOn n) s)

/-- A Sign-Off handed on is taken (R59). -/
def State.takeSignOff (n : Fin 16) (f : List Byte) (s : State) : State :=
  if s.isUp (.t n) then
    match tillNumber? f with
    | none => s.priceError
    | some number =>
      match s.tills.get? number with
      | some t => if t.port = some n then s.setTills (Table.put number { t with port := none } s.tills) else s.count .tillRefused
      | none => s.count .tillRefused
  else s

/-- The meaning of SIGN_OFF (R59). -/
def execSignOff (n : Fin 16) (s : State) : Host.Outcome State Fault Refusal :=
  .next (takeMessage (.t n) 0x03 (State.takeSignOff n) s)

/-! ### Immediate changes (4.4) -/

/-- The Active Price and flags of an item set, with a price notice where the Active Price changes (R62, R66). -/
def State.setActive (s : State) (k : Nat) (it : Item) (price : Nat) (flags : ItemFlags) : State :=
  let s1 := s.putItem k { it with active := some price, flags := flags }
  if it.active = some price then s1 else s1.priceNotice k

/-- An item write that passed its range checks: the item's index, or none where the table is full (R51, R62). -/
def State.writeItem (s : State) (code price : Nat) (flags : ItemFlags) : State × Option Nat :=
  match s.findItem code with
  | some (k, it) => (s.setActive k it price flags, some k)
  | none =>
    if s.items.length < 32768 then
      (s.setActive s.items.lowestFree ⟨code, none, flags, none, [], none⟩ price flags, some s.items.lowestFree)
    else (s, none)

/-- Whether an open load excludes a source from item writes (R70). -/
def State.excludes (s : State) (src : Source) : Bool :=
  match s.load.owner with
  | some o => decide (o ≠ src)
  | none => false

/-- The write an entry of 11 bytes carries: code, price, flags; none where a value lies outside its range (R62). -/
def writeEntry? (e : List Byte) : Option (Nat × Nat × ItemFlags) :=
  match itemFlagsOf? (fieldAt e 10 1) with
  | some fl => if codeOk (fieldAt e 0 6) && decide (fieldAt e 6 4 ≤ maxPrice) then some (fieldAt e 0 6, fieldAt e 6 4, fl) else none
  | none => none

/-- Item Write (R62, R70). -/
def serveItemWrite (src : Source) (params : List Byte) (s : State) : Reply :=
  if params.length < 11 then refuse s .range
  else
    match writeEntry? params with
    | none => refuse s .range
    | some w =>
      if s.excludes src then refuse s .notOwner
      else
        match s.writeItem w.1 w.2.1 w.2.2 with
        | (s1, some k) => (s1, .done, be 2 k)
        | (s1, none) => refuse s1 .full

/-- The meaning of ITEM_WRITE (R62). -/
def execItemWrite (src : Source) (s : State) : Host.Outcome State Fault Refusal := .next (takeRequest src 32 serveItemWrite s)

/-- Price Change (R63, R70): code, price. -/
def servePriceChange (src : Source) (params : List Byte) (s : State) : Reply :=
  let code := fieldAt params 0 6
  let price := fieldAt params 6 4
  if params.length < 10 ∨ codeOk code = false ∨ maxPrice < price then refuse s .range
  else
    match s.findItem code with
    | none => refuse s .unknown
    | some (k, it) =>
      if s.excludes src then refuse s .notOwner
      else if it.active.isNone then refuse s .state
      else (s.setActive k it price it.flags, .done, be 2 k)

/-- The meaning of PRICE_CHANGE (R63). -/
def execPriceChange (src : Source) (s : State) : Host.Outcome State Fault Refusal := .next (takeRequest src 35 servePriceChange s)

/-- What Item Read reports of a record: the index, the fields of R50 in their order, the Ceiling and the Basis (R64).
The Label List is a count of 1 byte and then that many IDs, for 11.2 gives no encoding of a list, and the Ceiling and the Basis
are optional fields, absent for a staged-only item (the model's choice, log 9). -/
def itemReadBytes (k : Nat) (it : Item) : List Byte :=
  be 2 k ++ be 6 it.code ++ beOption 4 it.active ++ be 1 (itemFlagByte it.flags) ++ beOption 4 (it.staged.map Prod.fst) ++
  beOption 1 (it.staged.map (fun st => itemFlagByte st.2)) ++ be 1 it.labels.length ++ it.labels.flatMap (be 4) ++
  beOption 4 it.floor ++ beOption 4 it.ceiling ++
  beOption 1 (it.ceiling.map (fun _ => if it.basis = .shelf then 0 else 1))

/-- Item Read (R64): a selector, then a code (0) or an index (1) (log 9). -/
def serveItemRead (_src : Source) (params : List Byte) (s : State) : Reply :=
  if fieldAt params 0 1 = 0 then
    if params.length < 7 ∨ codeOk (fieldAt params 1 6) = false then refuse s .range
    else
      match s.findItem (fieldAt params 1 6) with
      | some (k, it) => (s, .done, itemReadBytes k it)
      | none => refuse s .unknown
  else if fieldAt params 0 1 = 1 then
    if params.length < 3 ∨ 32767 < fieldAt params 1 2 then refuse s .range
    else
      match s.items.get? (fieldAt params 1 2) with
      | some it => (s, .done, itemReadBytes (fieldAt params 1 2) it)
      | none => refuse s .unknown
  else refuse s .range

/-- The meaning of ITEM_READ (R64). -/
def execItemRead (src : Source) (s : State) : Host.Outcome State Fault Refusal := .next (takeRequest src 33 serveItemRead s)

/-- Item Delete (R65): code. -/
def serveItemDelete (src : Source) (params : List Byte) (s : State) : Reply :=
  if params.length < 6 ∨ codeOk (fieldAt params 0 6) = false then refuse s .range
  else
    match s.findItem (fieldAt params 0 6) with
    | none => refuse s .unknown
    | some (k, it) => if s.excludes src then refuse s .state else (s.removeItem k it, .done, [])

/-- The meaning of ITEM_DELETE (R65). -/
def execItemDelete (src : Source) (s : State) : Host.Outcome State Fault Refusal := .next (takeRequest src 34 serveItemDelete s)

/-! ### The Load Transaction (4.5) -/

/-- Load Begin (R67). -/
def serveLoadBegin (src : Source) (_params : List Byte) (s : State) : Reply :=
  if s.load.owner.isSome then refuse s .busy
  else (s.setLoad ⟨some src, s.settings.loadTimer, 0, 0, 0, 0⟩, .done, [])

/-- The meaning of LOAD_BEGIN (R67). -/
def execLoadBegin (src : Source) (s : State) : Host.Outcome State Fault Refusal := .next (takeRequest src 36 serveLoadBegin s)

/-- The result of one write of a Load Part, coded in the order of R68's list: Done with the item's index 0, Range 1, Full 2
(11.2). -/
inductive LoadResult
  | done (index : Nat)
  | range
  | full
  deriving DecidableEq, Repr

/-- The bytes of a result of a Load Part: its code and, for Done, the item's index (R68, 11.2). -/
def loadResultBytes : LoadResult → List Byte
  | .done k => be 1 0 ++ be 2 k
  | .range => be 1 1
  | .full => be 1 2

/-- One write of a Load Part: the state, whether it was taken, and the bytes of its result (R68). -/
def State.loadWrite (s : State) (e : List Byte) : State × Bool × List Byte :=
  match writeEntry? e with
  | none => (s, false, loadResultBytes .range)
  | some w =>
    match s.writeItem w.1 w.2.1 w.2.2 with
    | (s1, some k) => (s1, true, loadResultBytes (.done k))
    | (s1, none) => (s1, false, loadResultBytes .full)

/-- The writes of a Load Part in order: the state, how many were applied, the results. -/
def loadWrites : List (List Byte) → State → State × Nat × List Byte
  | [], s => (s, 0, [])
  | e :: es, s =>
    let r := s.loadWrite e
    let q := loadWrites es r.1
    (q.1, q.2.1 + r.2.1.toNat, r.2.2 ++ q.2.2)

/-- The greatest of Writes Applied and Writes Refused (4.5). -/
def maxWrites : Nat := 1048560

/-- Load Part (R68): a count, then 11 bytes for each write (log 9). As the model's choice a body without its count is refused
with Range before the load's state and owner are looked at, and one short of its writes after them (log 38). -/
def serveLoadPart (src : Source) (params : List Byte) (s : State) : Reply :=
  let n := fieldAt params 0 1
  if params.length < 1 then refuse s .range
  else
    match s.load.owner with
    | none => refuse s .state
    | some o =>
      if o ≠ src then refuse s .notOwner
      else if n = 0 ∨ 16 < n ∨ params.length < 1 + 11 * n then refuse s .range
      else
        let r := loadWrites (piecesAt params 1 11 n) s
        (r.1.setLoad ⟨some o, s.settings.loadTimer, 0, bump16 s.load.parts,
          min (s.load.applied + r.2.1) maxWrites, min (s.load.refused + (n - r.2.1)) maxWrites⟩, .done, r.2.2)

/-- The meaning of LOAD_PART (R68). -/
def execLoadPart (src : Source) (s : State) : Host.Outcome State Fault Refusal := .next (takeRequest src 37 serveLoadPart s)

/-- Load End (R69). -/
def serveLoadEnd (src : Source) (_params : List Byte) (s : State) : Reply :=
  match s.load.owner with
  | none => refuse s .state
  | some o =>
    if o ≠ src then refuse s .notOwner
    else (s.setLoad { s.load with owner := none, timer := 0, phase := 0 }, .done,
      be 2 s.load.parts ++ be 4 s.load.applied ++ be 4 s.load.refused)

/-- The meaning of LOAD_END (R69). -/
def execLoadEnd (src : Source) (s : State) : Host.Outcome State Fault Refusal := .next (takeRequest src 38 serveLoadEnd s)

/-- The load lapses when its Timer has reached 0 (R69). -/
def State.loadLapse (s : State) : State :=
  if s.load.owner.isSome ∧ s.load.timer = 0 then
    (s.setLoad { s.load with owner := none, phase := 0 }).count .txnTimeout
  else s

/-- The meaning of LOAD_TRANSACTION_LAPSE (R69). -/
def execLoadTransactionLapse (s : State) : Host.Outcome State Fault Refusal := .next s.loadLapse

end Sys2Proof.Machine
end

