-- ==== Sys2Proof/Machine/Guests.lean ====
section
/-! DEFINITION. The Guest Unit (chapter 9): the Guest Session Table, arrivals, policing and metering, expiry, the Closing
Sweep and the guest operations. -/

namespace Sys2Proof.Machine

/-- The Guest Unit's record changed by a function. -/
def State.onGuests (s : State) (f : GuestUnit → GuestUnit) : State := s.setGuests (f s.guests)

/-- The Guest Session Table changed. -/
def State.setGuestTable (s : State) (t : Table Guest) : State := s.onGuests (fun g => { g with table := t })

/-- An entry made or replaced at a slot. -/
def State.putGuest (s : State) (slot : Nat) (g : Guest) : State := s.setGuestTable (Table.put slot g s.guests.table)

/-- An entry removed. -/
def State.dropGuest (s : State) (slot : Nat) : State := s.setGuestTable (Table.del slot s.guests.table)

/-- The slot and entry of a station. -/
def State.findGuest (s : State) (a : Station) : Option (Nat × Guest) :=
  s.guests.table.findBy (fun g => decide (g.station = a))

/-- The Address Table's entry for a station (2.5). -/
def State.findAddress (s : State) (a : Station) : Option AddressEntry := s.addresses.get? a.toNat

/-- The depth of a policer's bucket (R174). -/
def bucketDepth : Nat := 3072000

/-! ### Making and reclaiming entries (R167) -/

/-- The earlier-held of two Expired entries; on equal Hold-until the first, at the lower slot, is kept. -/
def earlierHold (best : Option (Nat × Moment)) (kv : Nat × Guest) : Option (Nat × Moment) :=
  match kv.2.state with
  | .expired h =>
    match best with
    | some (_, b) => if Moment.le b h then best else some (kv.1, h)
    | none => some (kv.1, h)
  | .pending _ | .admitted _ | .throttled _ | .barred => best

/-- The slot of the entry to reclaim: the Expired entry with the earliest Hold-until, at the lowest slot (R167). -/
def reclaimSlot (t : Table Guest) : Option Nat := (t.foldl earlierHold none).map Prod.fst

/-- A slot for a new entry: the lowest free one, or a reclaimed one; none where no entry can be made (R165, R167). -/
def State.guestSlot (s : State) : Option (State × Nat) :=
  if s.guests.table.length < 1024 then some (s, s.guests.table.lowestFree)
  else
    match reclaimSlot s.guests.table with
    | some k => some ((s.dropGuest k).onGuests (fun g => { g with reclaims := bump16 g.reclaims }), k)
    | none => none

/-- A fresh entry (R167, R170, R172): its port, its state, Store Time and the Closing Number as they stand. The budgets, Rate
and Buckets are those R167 gives a first frame's entry; for an entry that Guest Bar makes the spec gives none, and these are
the model's choice (log 49). -/
def State.freshGuest (s : State) (a : Station) (port : Option (Fin 4)) (st : GuestState) : Guest where
  station := a
  port := port
  state := st
  created := s.clock.now
  stamp := s.guests.closingNumber
  upBudget := 0
  downBudget := 0
  upRemaining := none
  downRemaining := none
  rate := 0
  upBucket := bucketDepth
  downBucket := bucketDepth

/-- An arrival report (R167, R168): the state, and whether the frame continues. -/
def State.guestArrival (s : State) (a : Station) (port : Fin 4) : State × Bool :=
  match s.findGuest a with
  | some (k, g) => (s.putGuest k { g with port := some port }, true)
  | none =>
    match s.mode with
    | .closed => (s.count .zoneDeny, false)
    | .trading =>
      match s.guestSlot with
      | some (s1, k) => (s1.putGuest k (s1.freshGuest a (some port) (.pending 300000)), true)
      | none => (s.count .guestFull, false)

/-- Link Down on an A port: Port becomes absent in every entry that names it (R168). -/
def State.clearGuestPorts (s : State) (n : Fin 4) : State :=
  s.setGuestTable (s.guests.table.mapRecords (fun g => if g.port = some n then { g with port := none } else g))

/-! ### Policing and metering (9.4) -/

/-- The policing rate of an entry (R174): the throttle floor while Pending or Expired, its Rate while live. Of a Barred entry it is
what Guest Read reports, its Rate (R173); no Bucket is refilled by it (the model's choice, log 72). -/
def policingRate (floor : Nat) (g : Guest) : Nat :=
  match g.state with
  | .pending _ | .expired _ => floor
  | .admitted _ | .throttled _ | .barred => g.rate

/-- One elapsed millisecond's refill of an entry's buckets; a rate of 0 holds them full (R174). A Barred entry, to
which R174 and R166 give no policing rate, keeps its buckets as they stand (the model's choice, log 72). -/
def refillGuest (floor : Nat) (g : Guest) : Guest :=
  match g.state with
  | .barred => g
  | .pending _ | .expired _ | .admitted _ | .throttled _ =>
    let r := policingRate floor g
    if r = 0 then { g with upBucket := bucketDepth, downBucket := bucketDepth }
    else { g with upBucket := min (g.upBucket + r) bucketDepth, downBucket := min (g.downBucket + r) bucketDepth }

/-- The direction of a guest frame (R165). -/
inductive Direction
  | up
  | down
  deriving DecidableEq, Repr

/-- The bucket of a direction. -/
def Guest.bucket (g : Guest) : Direction → Nat
  | .up => g.upBucket
  | .down => g.downBucket

/-- The bucket of a direction changed. -/
def Guest.setBucket (g : Guest) (d : Direction) (v : Nat) : Guest :=
  match d with
  | .up => { g with upBucket := v }
  | .down => { g with downBucket := v }

/-- The Remaining of a direction. -/
def Guest.remaining (g : Guest) : Direction → Option Nat
  | .up => g.upRemaining
  | .down => g.downRemaining

/-- The Remaining of a direction changed. -/
def Guest.setRemaining (g : Guest) (d : Direction) (v : Option Nat) : Guest :=
  match d with
  | .up => { g with upRemaining := v }
  | .down => { g with downRemaining := v }

/-- A policer drop counted (R174). -/
def State.policerDrop (s : State) (d : Direction) : State :=
  s.onGuests (fun g => match d with
    | .up => { g with upDrops := bump16 g.upDrops }
    | .down => { g with downDrops := bump16 g.downDrops })

/-- A policing rate of 0, which holds both buckets full; a Barred entry's buckets are not held full whatever its Rate
(the model's choice, log 72). -/
def heldFull (floor : Nat) (g : Guest) : Bool := decide (g.state ≠ .barred) && decide (policingRate floor g = 0)

/-- A frame of `n` bytes handed to an entry's policer (R174): the state and whether it passes. At a policing rate of 0 the
bucket is held full, so a frame finds it full and leaves it full. -/
def State.police (s : State) (slot : Nat) (d : Direction) (n : Nat) : State × Bool :=
  match s.guests.table.get? slot with
  | none => (s, true)
  | some g =>
    if heldFull s.settings.guest.floor g then (s.putGuest slot (g.setBucket d bucketDepth), true)
    else if 1000 * n ≤ g.bucket d then (s.putGuest slot (g.setBucket d (g.bucket d - 1000 * n)), true)
    else (s.policerDrop d, false)

/-- The rate of a session at throttling (R175). -/
def throttledRate (floor rate : Nat) : Nat := if rate ≠ 0 ∧ rate < floor then rate else floor

/-- The Buffer Manager's report that a policed frame was admitted (R175). -/
def State.debit (s : State) (a : Station) (d : Direction) (n : Nat) : State :=
  match s.findGuest a with
  | none => s
  | some (k, g) =>
    match g.state with
    | .admitted e =>
      match g.remaining d with
      | none => s
      | some r =>
        if n < r then s.putGuest k (g.setRemaining d (some (r - n)))
        else
          (s.putGuest k { g.setRemaining d (some 0) with
            state := .throttled e, rate := throttledRate s.settings.guest.floor g.rate }).count .guestQuota
    | .pending _ | .throttled _ | .expired _ | .barred => s

/-- The Buffer Manager's report that a policed frame was refused: its tokens return (R174). -/
def State.returnTokens (s : State) (a : Station) (d : Direction) (n : Nat) : State :=
  match s.findGuest a with
  | none => s
  | some (k, g) => s.putGuest k (g.setBucket d (min (g.bucket d + 1000 * n) bucketDepth))

/-! ### Expiry and hold (9.5) -/

/-- An entry as it becomes Expired (R176). -/
def State.expireGuest (s : State) (g : Guest) : Guest :=
  { g with state := .expired (Moment.plus s.clock.now (1000 * s.settings.guest.hold)) }

/-- Whether an entry's Expiry is reached (R176): Store Time stands at it or past it. So an entry that Guest Admit makes at day
65,535, ms 86,399,999, whose Expiry R176 holds at that moment, has reached it at once, before the wrap: R176 does not say whether
it has, Store Time having come to it already (the model's choice, log 32). -/
def expiryReached (now : Moment) (g : Guest) : Bool :=
  match g.state with
  | .admitted (some e) | .throttled (some e) => Moment.le e now
  | .admitted none | .throttled none | .pending _ | .expired _ | .barred => false

/-- Whether an entry's Hold-until is reached (R176). -/
def holdReached (now : Moment) (g : Guest) : Bool :=
  match g.state with
  | .expired h => Moment.le h now
  | .pending _ | .admitted _ | .throttled _ | .barred => false

/-- Whether a Pending entry's Pending Left has reached 0 (R169). -/
def pendingOver (g : Guest) : Bool :=
  match g.state with
  | .pending left => decide (left = 0)
  | .admitted _ | .throttled _ | .expired _ | .barred => false

/-- The entry at a slot becomes Expired where its Expiry is reached. -/
def State.guestExpiry (s : State) (slot : Nat) : State :=
  match s.guests.table.get? slot with
  | some g => if expiryReached s.clock.now g then s.putGuest slot (s.expireGuest g) else s
  | none => s

/-- The entry at a slot removed where its Hold-until is reached. -/
def State.guestHold (s : State) (slot : Nat) : State :=
  match s.guests.table.get? slot with
  | some g => if holdReached s.clock.now g then s.dropGuest slot else s
  | none => s

/-- The entry at a slot removed where its Pending Left is 0. -/
def State.guestTimeout (s : State) (slot : Nat) : State :=
  match s.guests.table.get? slot with
  | some g => if pendingOver g then s.dropGuest slot else s
  | none => s

/-- The meaning of GUEST_EXPIRY (R176). -/
def execGuestExpiry (slot : Nat) (s : State) : Host.Outcome State Fault Refusal := .next (s.guestExpiry slot)

/-- The meaning of HOLD_UNTIL_REACHED (R176). -/
def execHoldUntilReached (slot : Nat) (s : State) : Host.Outcome State Fault Refusal := .next (s.guestHold slot)

/-- The meaning of PENDING_TIMEOUT (R169). -/
def execPendingTimeout (slot : Nat) (s : State) : Host.Outcome State Fault Refusal := .next (s.guestTimeout slot)

/-- Every Expiry and then every Hold-until that Store Time has reached, taken by a set, or by the advance where their own rows left
them (R2, R176, logs 1 and 32). An entry whose Expiry is taken at day 65,535, ms 86,399,999 gets a Hold-until that Store Time has
reached, and it is removed in the same step, before the wrap: R176 does not say whether it is (the model's choice, log 32). -/
def State.reachGuestTimes (s : State) : State :=
  s.setGuestTable ((s.guests.table.mapRecords
    (fun g => if expiryReached s.clock.now g then s.expireGuest g else g)).keep (fun g => !holdReached s.clock.now g))

/-- Every Pending entry whose time is over removed (R169). -/
def State.dropPending (s : State) : State := s.setGuestTable (s.guests.table.keep (fun g => !pendingOver g))

/-! ### The Closing Sweep (R177) -/

/-- The Closing Sweep started: the Closing Number rises and the walk begins at slot 0. -/
def State.startClosingSweep (s : State) : State :=
  s.onGuests (fun g => { g with closingNumber := wrap16 g.closingNumber, sweep := some 0 })

/-- Whether the sweep expires an entry it reaches. -/
def sweepExpires (closingNumber : Nat) (g : Guest) : Bool :=
  match g.state with
  | .pending _ | .admitted _ | .throttled _ => decide (g.stamp ≠ closingNumber)
  | .expired _ | .barred => false

/-- The entry at the slot the sweep has reached (R177). -/
def State.sweepSlot (s : State) (slot : Nat) : State :=
  match s.guests.table.get? slot with
  | some g => if sweepExpires s.guests.closingNumber g then s.putGuest slot (s.expireGuest g) else s
  | none => s

/-- One step of the Closing Sweep. While RESET is held the part stands, and the sweep the reset started waits (log 14). -/
def State.closingSweepStep (s : State) : State :=
  match s.guests.sweep with
  | none => s
  | some slot =>
    if s.resetHeld then s
    else
      (s.sweepSlot slot).onGuests (fun g => { g with sweep := if slot + 1 < 1024 then some (slot + 1) else none })

/-- The meaning of CLOSING_SWEEP_STEP (R177). -/
def execClosingSweepStep (s : State) : Host.Outcome State Fault Refusal := .next s.closingSweepStep

/-! ### Guest operations (9.3) -/

/-- Whether an address can name a guest station: not a group address, not the management station address. -/
def State.guestAddressOk (s : State) (a : Station) : Bool := !isGroup a && decide (a ≠ s.managementAddress)

/-- The duration, budgets and rate of a Guest Admit: given or left to the default (R170). -/
structure AdmitTerms where
  duration : Nat
  up : Nat
  down : Nat
  rate : Nat

/-- Whether a duration lies in its range (R170, R181). -/
def durationOk (n : Nat) : Bool := decide (n = 0) || (decide (60 ≤ n) && decide (n ≤ 604800))

/-- Whether a guest rate lies in its range (R170, R181). -/
def guestRateOk (n : Nat) : Bool := decide (n = 0) || (decide (1000 ≤ n) && decide (n ≤ 12500000))

/-- The terms a Guest Admit carries from offset 6: four optional fields; none where a value lies outside its range. -/
def admitTerms? (d : GuestSettings) (params : List Byte) : Option AdmitTerms :=
  match optionAt params 6 4, optionAt params 11 4, optionAt params 16 4, optionAt params 21 4 with
  | some t, some u, some w, some r =>
    if durationOk (t.getD d.duration) && guestRateOk (r.getD d.rate) then
      some ⟨t.getD d.duration, u.getD d.upBudget, w.getD d.downBudget, r.getD d.rate⟩
    else none
  | _, _, _, _ => none

/-- A budget's Remaining at admission: absent for an unmetered budget (R170). -/
def startRemaining (budget : Nat) : Option Nat := if budget = 0 then none else some budget

/-- An entry made Admitted on its terms, in one step (R170). -/
def State.admitGuest (s : State) (g : Guest) (t : AdmitTerms) : Guest :=
  { g with
    state := .admitted (if t.duration = 0 then none else some (Moment.plus s.clock.now (1000 * t.duration)))
    stamp := s.guests.closingNumber
    upBudget := t.up
    downBudget := t.down
    upRemaining := startRemaining t.up
    downRemaining := startRemaining t.down
    rate := t.rate
    upBucket := bucketDepth
    downBucket := bucketDepth }

/-- Guest Admit (R170): station, then duration, up budget, down budget and rate, each optional. -/
def serveGuestAdmit (_src : Source) (params : List Byte) (s : State) : Reply :=
  let a := stationAt params 0
  if params.length < 26 ∨ s.guestAddressOk a = false then refuse s .range
  else
    match admitTerms? s.settings.guest params with
    | none => refuse s .range
    | some t =>
      if s.mode = .closed then refuse s .state
      else if (s.findAddress a).isSome then refuse s .state
      else
        match s.findGuest a with
        | some (k, g) => if g.state = .barred then refuse s .state else (s.putGuest k (s.admitGuest g t), .done, be 2 k)
        | none =>
          match s.guestSlot with
          | some (s1, k) => (s1.putGuest k (s1.admitGuest (s1.freshGuest a none .barred) t), .done, be 2 k)
          | none => refuse s .full

/-- The meaning of GUEST_ADMIT (R170). -/
def execGuestAdmit (src : Source) (s : State) : Host.Outcome State Fault Refusal := .next (takeRequest src 64 serveGuestAdmit s)

/-- Guest End (R171): station. -/
def serveGuestEnd (_src : Source) (params : List Byte) (s : State) : Reply :=
  let a := stationAt params 0
  if params.length < 6 ∨ s.guestAddressOk a = false then refuse s .range
  else
    match s.findGuest a with
    | none => refuse s .unknown
    | some (k, g) =>
      match g.state with
      | .barred => refuse s .state
      | .expired _ => (s, .done, [])
      | .pending _ | .admitted _ | .throttled _ => (s.putGuest k (s.expireGuest g), .done, [])

/-- The meaning of GUEST_END (R171). -/
def execGuestEnd (src : Source) (s : State) : Host.Outcome State Fault Refusal := .next (takeRequest src 65 serveGuestEnd s)

/-- Guest Bar (R172): station. -/
def serveGuestBar (_src : Source) (params : List Byte) (s : State) : Reply :=
  let a := stationAt params 0
  if params.length < 6 ∨ s.guestAddressOk a = false then refuse s .range
  else if (s.findAddress a).isSome then refuse s .state
  else
    match s.findGuest a with
    | some (k, g) => (s.putGuest k { g with state := .barred, upRemaining := none, downRemaining := none }, .done, [])
    | none =>
      match s.guestSlot with
      | some (s1, k) => (s1.putGuest k (s1.freshGuest a none .barred), .done, [])
      | none => refuse s .full

/-- The meaning of GUEST_BAR (R172). -/
def execGuestBar (src : Source) (s : State) : Host.Outcome State Fault Refusal := .next (takeRequest src 66 serveGuestBar s)

/-- Guest Unbar (R172): station. -/
def serveGuestUnbar (_src : Source) (params : List Byte) (s : State) : Reply :=
  let a := stationAt params 0
  if params.length < 6 ∨ s.guestAddressOk a = false then refuse s .range
  else
    match s.findGuest a with
    | none => refuse s .unknown
    | some (k, g) => if g.state = .barred then (s.dropGuest k, .done, []) else refuse s .state

/-- The meaning of GUEST_UNBAR (R172). -/
def execGuestUnbar (src : Source) (s : State) : Host.Outcome State Fault Refusal := .next (takeRequest src 67 serveGuestUnbar s)

/-- The code of a guest state, in the order of R165's table. -/
def guestStateCode : GuestState → Nat
  | .pending _ => 0
  | .admitted _ => 1
  | .throttled _ => 2
  | .expired _ => 3
  | .barred => 4

/-- Pending Left, Expiry and Hold-until of an entry as optional fields (R165). -/
def guestTimeBytes : GuestState → List Byte
  | .pending left => beOption 4 (some left) ++ beMomentOption none ++ beMomentOption none
  | .admitted e => beOption 4 none ++ beMomentOption e ++ beMomentOption none
  | .throttled e => beOption 4 none ++ beMomentOption e ++ beMomentOption none
  | .expired h => beOption 4 none ++ beMomentOption none ++ beMomentOption (some h)
  | .barred => beOption 4 none ++ beMomentOption none ++ beMomentOption none

/-- What Guest Read reports of an entry: the slot, the fields of R165 in their order, the rate in force (R173, log 9). -/
def guestReadBytes (floor slot : Nat) (g : Guest) : List Byte :=
  be 2 slot ++ beStation g.station ++ beOption 1 (g.port.map Fin.val) ++ be 1 (guestStateCode g.state) ++
  beMoment g.created ++ be 2 g.stamp ++ guestTimeBytes g.state ++ be 4 g.upBudget ++ be 4 g.downBudget ++
  beOption 4 g.upRemaining ++ beOption 4 g.downRemaining ++ be 4 g.rate ++ be 4 g.upBucket ++ be 4 g.downBucket ++
  be 4 (policingRate floor g)

/-- Guest Read (R173): a selector, then a station (0) or a slot (1) (log 9). -/
def serveGuestRead (_src : Source) (params : List Byte) (s : State) : Reply :=
  if fieldAt params 0 1 = 0 then
    if params.length < 7 ∨ s.guestAddressOk (stationAt params 1) = false then refuse s .range
    else
      match s.findGuest (stationAt params 1) with
      | some (k, g) => (s, .done, guestReadBytes s.settings.guest.floor k g)
      | none => refuse s .unknown
  else if fieldAt params 0 1 = 1 then
    if params.length < 3 ∨ 1023 < fieldAt params 1 2 then refuse s .range
    else
      match s.guests.table.get? (fieldAt params 1 2) with
      | some g => (s, .done, guestReadBytes s.settings.guest.floor (fieldAt params 1 2) g)
      | none => refuse s .unknown
  else refuse s .range

/-- The meaning of GUEST_READ (R173). -/
def execGuestRead (src : Source) (s : State) : Host.Outcome State Fault Refusal := .next (takeRequest src 68 serveGuestRead s)

end Sys2Proof.Machine
end

