-- ==== Sys2Proof/Machine/Clock.lean ====
section
/-! DEFINITION. The Time Unit's own state (chapter 1): Store Mode, the schedule slots, the CUTOVER slot's three requests,
and the loading of a new time. -/

namespace Sys2Proof.Machine

/-! ### Store Mode (1.4) -/

/-- Store Mode asked for: a change from Trading to Closed starts the Closing Sweep (R12). -/
def State.askMode (s : State) (m : StoreMode) : State :=
  if s.mode = .trading ∧ m = .closed then (s.setMode .closed).startClosingSweep else s.setMode m

/-- The Store Mode that the store hours give at a millisecond of day (R12). -/
def hoursMode (opens closes : Option Nat) (ms : Nat) : StoreMode :=
  match opens, closes with
  | none, none => .trading
  | some _, none => .trading
  | none, some _ => .closed
  | some o, some c =>
    if o < c then (if o ≤ ms ∧ ms < c then .trading else .closed)
    else (if o ≤ ms ∨ ms < c then .trading else .closed)

/-- The store-hours evaluation: Closed while Time Valid is false (R12). -/
def State.evaluateHours (s : State) : State :=
  if s.clock.valid then s.askMode (hoursMode s.schedule.storeOpen.time s.schedule.storeClose.time s.clock.now.ms)
  else s.askMode .closed

/-- Set Store Mode (R12): Trading 0, Closed 1. -/
def serveSetStoreMode (_src : Source) (params : List Byte) (s : State) : Reply :=
  if params.length < 1 then refuse s .range
  else if fieldAt params 0 1 = 0 then (s.askMode .trading, .done, [])
  else if fieldAt params 0 1 = 1 then (s.askMode .closed, .done, [])
  else refuse s .range

/-- The meaning of SET_STORE_MODE (R12). -/
def execSetStoreMode (src : Source) (s : State) : Host.Outcome State Fault Refusal := .next (takeRequest src 18 serveSetStoreMode s)

/-! ### Daily slots (1.3) -/

/-- A daily slot of the table. -/
def Schedule.daily (c : Schedule) : DailyName → DailySlot
  | .storeOpen => c.storeOpen
  | .storeClose => c.storeClose
  | .nightStart => c.nightStart
  | .nightEnd => c.nightEnd

/-- A daily slot of the table changed. -/
def Schedule.setDaily (c : Schedule) (n : DailyName) (v : DailySlot) : Schedule :=
  match n with
  | .storeOpen => { c with storeOpen := v }
  | .storeClose => { c with storeClose := v }
  | .nightStart => { c with nightStart := v }
  | .nightEnd => { c with nightEnd := v }

/-- The four daily slots in the table's order. -/
def dailyNames : List DailyName := [.storeOpen, .storeClose, .nightStart, .nightEnd]

/-- Whether a daily slot is due (R7), by Store Time and the table as they stand: no mark of an earlier check is kept (log 65). -/
def State.dailyDue (s : State) (n : DailyName) : Bool :=
  s.clock.valid && !s.loading &&
  match (s.schedule.daily n).time with
  | some t => decide (t ≤ s.clock.now.ms) && decide ((s.schedule.daily n).firedDay ≠ some s.clock.now.day)
  | none => false

/-- A daily slot's Fired Day becomes the current day (R7). -/
def State.markFired (s : State) (n : DailyName) : State :=
  s.setSchedule (s.schedule.setDaily n { s.schedule.daily n with firedDay := some s.clock.now.day })

/-- A daily slot settled: where its time is present and at or before the millisecond of day, its Fired Day becomes the
current day and its action is not taken (R6). -/
def State.settleSlot (s : State) (n : DailyName) : State :=
  match (s.schedule.daily n).time with
  | some t => if t ≤ s.clock.now.ms then s.markFired n else s
  | none => s

/-- The daily slots settled (R6, R11). -/
def State.settle (s : State) : State := dailyNames.foldl State.settleSlot s

/-- The four daily slot times as they stand. -/
def Schedule.times (c : Schedule) : DailyTimes :=
  ⟨c.storeOpen.time, c.storeClose.time, c.nightStart.time, c.nightEnd.time⟩

/-- The daily slot times taken from an image, the Fired Days kept as they stand (R11). -/
def Schedule.takeTimes (c : Schedule) (t : DailyTimes) : Schedule :=
  { c with
    storeOpen := { c.storeOpen with time := t.storeOpen }
    storeClose := { c.storeClose with time := t.storeClose }
    nightStart := { c.nightStart with time := t.nightStart }
    nightEnd := { c.nightEnd with time := t.nightEnd } }

/-! ### The CUTOVER slot (R9) -/

/-- Whether CUTOVER is due. -/
def State.cutoverDue (s : State) : Bool :=
  s.clock.valid && !s.loading && !s.schedule.inhibit &&
  match s.schedule.cutover with
  | some m => Moment.le m s.clock.now
  | none => false

/-- Inhibit: the moment is cleared and the inhibit set. -/
def State.cutoverInhibit (s : State) : State := s.setSchedule { s.schedule with cutover := none, inhibit := true }

/-- Clear: the moment and the inhibit are cleared. -/
def State.cutoverClear (s : State) : State := s.setSchedule { s.schedule with cutover := none, inhibit := false }

/-- Load: the inhibit is lifted; answers true for passed, or stores the moment and answers false for loaded. -/
def State.cutoverLoad (s : State) (m : Moment) : State × Bool :=
  let s1 := s.setSchedule { s.schedule with inhibit := false }
  if s.clock.valid ∧ Moment.le m s.clock.now = true then (s1, true)
  else (s1.setSchedule { s1.schedule with cutover := some m }, false)

/-! ### A new time (1.2) -/

/-- The kinds of set (R4). -/
inductive SetKind
  | first
  | forward
  | backward
  | equal
  deriving DecidableEq, Repr

/-- The kind of a set to `m`, judged against Store Time as it stands (R4 step 1). -/
def State.setKind (s : State) (m : Moment) : SetKind :=
  if s.clock.valid = false then .first
  else if m = s.clock.now then .equal
  else if Moment.le m s.clock.now then .backward
  else .forward

/-- Steps 1 to 4 of R4, with the settling and the evaluation of R6 and the guest times a set reaches (R2, R176). What a set
fires is left to `fireDue`. -/
def State.loadTime (s : State) (m : Moment) : State :=
  let kind := s.setKind m
  let s1 := (s.setClock ⟨m, true⟩).count .timeSet
  let s2 := match kind with
    | .first => (s1.settle).evaluateHours
    | .backward => s1.settle
    | .forward | .equal => s1
  s2.reachGuestTimes

end Sys2Proof.Machine
end

