-- ==== Sys2Proof/Machine/Journal.lean ====
section
/-! DEFINITION. The Sales Journal's ring (chapter 5): record bytes and check values, reading, removal and the Recovery Scan. -/

namespace Sys2Proof.Machine

/-- The journal changed by a function. -/
def State.onJournal (s : State) (f : Journal → Journal) : State := s.setJournal (f s.journal)

/-- The code of a Tender Kind (11.3). -/
def tenderCode : Tender → Nat
  | .cash => 0
  | .card => 1
  | .voucher => 2
  | .mixed => 3

/-- A line entry's 16 bytes (11.3). -/
def lineBytes (l : Line) : List Byte :=
  be 6 l.code ++ beInt l.quantity ++ be 4 l.unitPrice ++ be 1 (lineFlagByte l) ++ [0#8]

/-- A record's bytes as a Journal Block carries them, up to its slot check value (11.3). -/
def recordBytes (r : SaleRecord) : List Byte :=
  be 4 r.sequence ++ be 2 r.till ++ be 4 r.transaction ++ beMoment r.stamp ++ be 1 (tenderCode r.tender) ++
  be 1 r.lines.length ++ beBool r.timeValid ++ be 1 r.overchargeCount ++ be 1 r.blockedCount ++ [0#8] ++ beInt r.total ++
  r.lines.flatMap lineBytes

/-- The slot check value of a record: the check value of R203 over the whole record (R73, log 8). -/
def slotCheck (r : SaleRecord) : Check := checkValue (recordBytes r)

/-- A slot as the Journal Unit writes it: the record and its check value together (R73). -/
def writtenSlot (r : SaleRecord) : Slot := ⟨r, slotCheck r⟩

/-- A slot's bytes in a Journal Block: 30 + 16m of them (11.3). -/
def slotBytes (x : Slot) : List Byte := recordBytes x.record ++ be 4 x.check.toNat

/-- The size of the ring (R72). -/
def ringSlots : Nat := 16384

/-- Next Sequence after a record has taken `q` (R72). -/
def sequenceAfter (q : Nat) : Option Nat := if q < 4294967295 then some (q + 1) else none

/-- A slot joins the newest end: Count and Next Sequence rise by 1 (R72, R81). -/
def Journal.append (j : Journal) (x : Slot) : Journal :=
  { j with slots := j.slots ++ [x], nextSequence := j.nextSequence.bind sequenceAfter }

/-- A record read (R84): the held slots from a first sequence on, up to a number. -/
def Journal.read (j : Journal) (first number : Nat) : List Slot :=
  match j.oldest with
  | some o => (j.slots.drop (first - o)).take number
  | none => []

/-- The Overflow Mark cleared where the oldest sequence has gone above it (R85, R89). In an emptied journal no sequence is held:
Next Sequence stands in for the oldest there, so that the mark is cleared, which the spec does not say (the model's choice,
log 52). -/
def Journal.clearMark (j : Journal) : Journal :=
  match j.overflowMark with
  | some m => if m < j.nextValue - j.slots.length then { j with overflowMark := none } else j
  | none => j

/-- A removal request naming a Journal Sequence (R85). -/
def Journal.removeTo (j : Journal) (q : Nat) : Journal :=
  match j.oldest with
  | none => j
  | some o =>
    if o ≤ q then
      let n := min (q + 1 - o) j.slots.length
      Journal.clearMark { j with head := (j.head + n) % ringSlots, slots := j.slots.drop n }
    else j

/-! ### The Recovery Scan (5.5) -/

/-- The start of the scan at a reset other than power-on: the Overflow Mark is cleared; a journal with Count 0 ends it at
its start, having cut nothing (R86, R87). Where slots are held, Last Recovery Loss keeps the value of the scan before until this
scan ends and sets it: R74 and R91 give no value for the time between (the model's choice, log 63). -/
def Journal.startScan (j : Journal) : Journal :=
  if j.slots.isEmpty then { j with scan := none, overflowMark := none, lastLoss := 0 }
  else { j with scan := some 0, overflowMark := none }

/-- A slot that a reset left partly written, Count already raised (R81). The spec says no more: as the model's choice Next
Sequence has risen with Count, while the till's Last fields and the counts of the lines have not moved, and no slot is being
written while the Recovery Scan runs (log 16). -/
def Journal.tear (j : Journal) : Option Slot → Journal
  | some x => if j.scan.isNone = true ∧ j.slots.length < ringSlots ∧ j.nextSequence.isSome = true then j.append x else j
  | none => j

/-- The journal as a reset leaves it, a record being written perhaps torn; none is being written while the image is Loading,
when no frame is accepted (R16, R81, log 16). -/
def State.tornJournal (s : State) (torn : Option Slot) : Journal := if s.loading then s.journal else s.journal.tear torn

/-- The two tests of a slot (R86): its check value holds, and its sequence is the one expected. -/
def slotPasses (x : Slot) (expected : Nat) : Bool := decide (x.check = slotCheck x.record) && decide (x.record.sequence = expected)

/-- A rebuild entry taken by the Price Service (R61, R88): the tills, and whether the entry was taken. -/
def rebuildTill (t : Table Till) (r : SaleRecord) : Table Till × Bool :=
  match t.get? r.till with
  | some till => (Table.put r.till { till with lastTransaction := some r.transaction, lastSequence := some r.sequence } t, true)
  | none =>
    if t.length < 32 then (Table.put r.till ⟨none, some r.transaction, some r.sequence⟩ t, true)
    else (t, false)

/-- The cut notice's effect on one till record (R88). -/
def cutTill (q : Nat) (t : Till) : Till :=
  match t.lastSequence with
  | some n => if q ≤ n then { t with lastTransaction := none, lastSequence := none } else t
  | none => t

/-- The journal cut at a failing slot, `kept` records before it (R87). -/
def State.cutJournal (s : State) (kept expected : Nat) : State :=
  let dropped := s.journal.slots.length - kept
  let s1 := s.onJournal (fun j => { j with
    slots := j.slots.take kept, nextSequence := some expected, scan := none, lastLoss := dropped })
  let s2 := s1.setTills (s1.tills.mapRecords (cutTill expected))
  s2.countBy .recoveryLoss dropped

/-- A slot kept by the scan: its rebuild entry is handed on and the scan goes on, or ends past the last slot (R86, R88). -/
def State.keepSlot (s : State) (pos : Nat) (x : Slot) : State :=
  let r := rebuildTill s.tills x.record
  (s.setTills r.1).onJournal (fun j => { j with
    slots := j.slots.set pos x
    overflowMark := if r.2 then j.overflowMark else some x.record.sequence
    scan := if pos + 1 < j.slots.length then some (pos + 1) else none
    lastLoss := if pos + 1 < j.slots.length then j.lastLoss else 0 })

/-- One step of the Recovery Scan: the slot at its distance from Head is tested (R86, R87). `damaged` is what the slot reads
as where it was damaged at rest; none where it reads as it was written (log 16). -/
def State.recoveryScanStep (s : State) (damaged : Option Slot) : State :=
  match s.journal.scan with
  | none => s
  | some pos =>
    match s.journal.slots[pos]? with
    | none => s.onJournal (fun j => { j with scan := none, lastLoss := 0 })
    | some stored =>
      let x := damaged.getD stored
      let expected := s.journal.nextValue - s.journal.slots.length + pos
      if slotPasses x expected then s.keepSlot pos x else s.cutJournal pos expected

end Sys2Proof.Machine
end

