-- ==== Sys2Proof/Machine/Batches.lean ====
section
/-! DEFINITION. The Batch Unit (chapter 7): batch messages, arming, the two sweeps and withdrawal. -/

namespace Sys2Proof.Machine

/-! ### Sweeps -/

/-- The record becomes Cutting at Sweep Position 0 (R129, R130). -/
def State.startCutover (s : State) (b : Batch) : State := s.setBatch (some { b with state := .cutting, position := 0 })

/-- The record becomes Withdrawing at Sweep Position 0, with a Clear sent to the Time Unit (R134, R135). -/
def State.startWithdraw (s : State) (b : Batch) : State :=
  (s.cutoverClear).setBatch (some { b with state := .withdrawing, position := 0 })

/-- A discard request: an Open batch is withdrawn and BATCH-DISCARDED counted; nothing else changes (R135). -/
def State.discardBatch (s : State) : State :=
  match s.batch with
  | some b => if b.state = .receiving then (s.startWithdraw b).count .batchDiscarded else s
  | none => s

/-- The CUTOVER slot's request: an Armed batch starts its Cutover Sweep (R130). -/
def State.cutoverRequest (s : State) : State :=
  match s.batch with
  | some b => if b.state = .armed then s.startCutover b else s
  | none => s

/-- The last index of a sweep is 32,767 (R131). -/
def sweepEnd : Nat := 32768

/-- Step 1 and step 3 of R131 at an index: the stage made active, its notice handed when the Active Price changed. -/
def State.applyStage (s : State) (k : Nat) : State :=
  match s.items.get? k with
  | some it =>
    match it.staged with
    | some (p, fl) => s.setActive k { it with staged := none } p fl
    | none => s
  | none => s

/-- One step of the Cutover Sweep (R131, R133). At index 32,767 the item's price notice, with the LABEL-STALE it may count, comes
before the record's removal and CUTOVER-DONE: the spec gives step 3 and the sweep's end no order (the model's choice,
log 54). -/
def State.cutoverSweepStep (s : State) : State :=
  match s.batch with
  | some b =>
    if b.state = .cutting then
      let s1 := s.applyStage b.position
      if b.position + 1 < sweepEnd then s1.setBatch (some { b with position := b.position + 1 })
      else (s1.setBatch none).count .cutoverDone
    else s
  | none => s

/-- The meaning of CUTOVER_SWEEP_STEP (R131). -/
def execCutoverSweepStep (s : State) : Host.Outcome State Fault Refusal := .next s.cutoverSweepStep

/-- Steps 1 and 2 of R136 at an index. -/
def State.withdrawStage (s : State) (k : Nat) : State :=
  match s.items.get? k with
  | some it =>
    if it.staged.isSome then
      if it.active.isSome then s.putItem k { it with staged := none } else s.removeItem k it
    else s
  | none => s

/-- One step of the Withdraw Sweep (R136, R137). -/
def State.withdrawSweepStep (s : State) : State :=
  match s.batch with
  | some b =>
    if b.state = .withdrawing then
      let s1 := s.withdrawStage b.position
      if b.position + 1 < sweepEnd then s1.setBatch (some { b with position := b.position + 1 })
      else s1.setBatch none
    else s
  | none => s

/-- The meaning of WITHDRAW_SWEEP_STEP (R136). -/
def execWithdrawSweepStep (s : State) : Host.Outcome State Fault Refusal := .next s.withdrawSweepStep

/-! ### Batch messages (7.2) -/

/-- Part Ack statuses (R123), in the order of 11.3. -/
inductive PartStatus
  | taken
  | repeated
  | busy
  | range
  | noBatch
  | notOpen
  | gap
  | excess
  deriving DecidableEq, Repr

/-- The code of a Part Ack status (11.3). -/
def partStatusCode : PartStatus → Nat
  | .taken => 0
  | .repeated => 1
  | .busy => 2
  | .range => 3
  | .noBatch => 4
  | .notOpen => 5
  | .gap => 6
  | .excess => 7

/-- Batch Open taken (R124). -/
def State.openBatch (s : State) (number declared : Nat) (time : Option Moment) : State × PartStatus :=
  if declared = 0 ∨ 32768 < declared ∨ (time.any (fun m => decide (dayMs ≤ m.ms))) = true then (s, .range)
  else
    match s.batch with
    | none => ((s.cutoverInhibit).setBatch (some ⟨number, declared, 0, 0, 1, crcStart, time, .receiving, 0⟩), .taken)
    | some b =>
      if b.state = .receiving ∧ b.number = number ∧ b.declared = declared ∧ b.cutoverTime = time then (s, .repeated)
      else (s, .busy)

/-- Results of one change (R126). -/
inductive ChangeResult
  | rejectedRange
  | staged
  | rejectedUnknown
  | rejectedFull
  | created
  deriving DecidableEq, Repr

/-- The result byte of a change (11.3). -/
def changeCode : ChangeResult → Nat
  | .rejectedRange => 0
  | .staged => 1
  | .rejectedUnknown => 2
  | .rejectedFull => 3
  | .created => 4

/-- Whether a result rejects its change. -/
def ChangeResult.rejects : ChangeResult → Bool
  | .rejectedRange | .rejectedUnknown | .rejectedFull => true
  | .staged | .created => false

/-- One change of a taken Batch Part, from its 12 bytes (R126). -/
def State.applyChange (s : State) (e : List Byte) : State × ChangeResult :=
  let code := fieldAt e 0 6
  let price := fieldAt e 6 4
  let flagBits := fieldAt e 10 1
  match itemFlagsOf? (flagBits % 128) with
  | none => (s, .rejectedRange)
  | some fl =>
    if codeOk code = false ∨ maxPrice < price then (s, .rejectedRange)
    else
      match s.findItem code with
      | some (k, it) => (s.putItem k { it with staged := some (price, fl) }, .staged)
      | none =>
        if flagBits < 128 then (s, .rejectedUnknown)
        else if 32768 ≤ s.items.length then (s, .rejectedFull)
        else (s.putItem s.items.lowestFree ⟨code, none, ⟨false, false, false⟩, some (price, fl), [], none⟩, .created)

/-- The changes of a part in order: the state, the results. -/
def applyChanges : List (List Byte) → State → State × List ChangeResult
  | [], s => (s, [])
  | e :: es, s =>
    let r := s.applyChange e
    let q := applyChanges es r.1
    (q.1, r.2 :: q.2)

/-- Batch Part taken (R125, R126): its number, part number, and changes of 12 bytes. -/
def State.batchPart (s : State) (number part count : Nat) (changes : List (List Byte)) :
    State × PartStatus × List ChangeResult :=
  match s.batch with
  | none => (s, .noBatch, [])
  | some b =>
    if b.number ≠ number then (s, .noBatch, [])
    else if b.state ≠ .receiving then (s, .notOpen, [])
    else if count = 0 ∨ 64 < count then (s, .range, [])
    else if part < b.nextPart then (s, .repeated, [])
    else if b.nextPart < part then (s, .gap, [])
    else if b.declared < b.received + count then (s, .excess, [])
    else
      let r := applyChanges changes s
      (r.1.setBatch (some { b with
        received := b.received + count
        rejected := b.rejected + (r.2.filter ChangeResult.rejects).length
        nextPart := b.nextPart + 1
        check := crcCarry b.check changes.flatten }), .taken, r.2)

/-- The body of a Part Ack (11.3): the counts as they stand after the message; free values where no record holds any
(log 11). -/
def State.partAckBody (s : State) (number : Nat) (st : PartStatus) (results : List ChangeResult) : List Byte :=
  be 4 number ++ be 1 (partStatusCode st) ++ be 1 results.length ++
  (match s.batch with
    | some b => be 2 b.received ++ be 2 b.rejected
    | none => be 2 (Config.freeCount s.freeUsed).toNat ++ be 2 (Config.freeCount (s.freeUsed + 1)).toNat) ++
  results.flatMap (fun r => be 1 (changeCode r))

/-- Free counts drawn where a Part Ack answers with no record (log 11). -/
def State.drawCounts (s : State) : State := if s.batch.isNone then s.setFreeUsed (s.freeUsed + 2) else s

/-- A Good verdict arms the batch (R129): the slot is loaded or cleared, and a passed time starts a late cutover. -/
def State.arm (s : State) (b : Batch) : State :=
  let armed : Batch := { b with state := .armed }
  match b.cutoverTime with
  | none => (s.cutoverClear).setBatch (some armed)
  | some m =>
    let r := s.cutoverLoad m
    if r.2 then (r.1.startCutover armed).count .lateCutover else r.1.setBatch (some armed)

/-- The verdict repeated for a Batch Close that finds no Open record of its number (R128). -/
def State.repeatVerdict (s : State) (number : Nat) : VerdictKind × Nat :=
  match s.lastVerdict with
  | some v => if v.number = number then (if v.good then (.good, v.rejected) else (.bad, 0)) else (.noBatch, 0)
  | none => (.noBatch, 0)

/-- Batch Close taken (R127, R128): the state, the verdict and, for Good, the Rejected Count. After Bad the Last Verdict holds
the record's Rejected Count, which the spec leaves open (the model's choice, log 41). -/
def State.closeBatch (s : State) (number count : Nat) (check : Nat) : State × VerdictKind × Nat :=
  match s.batch with
  | none => (s, s.repeatVerdict number)
  | some b =>
    if b.state = .receiving ∧ b.number = number then
      if count = b.declared ∧ count = b.received ∧ check = b.check.toNat then
        let s1 := (s.count .batchArmed).setLastVerdict (some ⟨number, true, b.rejected⟩)
        (s1.arm b, .good, b.rejected)
      else
        let s1 := (s.count .batchBad).setLastVerdict (some ⟨number, false, b.rejected⟩)
        (s1.startWithdraw b, .bad, 0)
    else (s, s.repeatVerdict number)

/-- The code of a verdict (R123). -/
def verdictCode : VerdictKind → Nat
  | .good => 0
  | .bad => 1
  | .noBatch => 2

/-- The body of a Batch Verdict (R123): Batch Number, verdict, and the Rejected Count, which only Good carries, as an optional
field (the model's choice, log 9). -/
def verdictBody (number : Nat) (v : VerdictKind) (rejected : Nat) : List Byte :=
  be 4 number ++ be 1 (verdictCode v) ++ beOption 2 (if v = .good then some rejected else none)

/-! ### Requests (R130, R134) and reports (R138) -/

/-- Cutover Now (R130). -/
def serveCutoverNow (_src : Source) (_params : List Byte) (s : State) : Reply :=
  match s.batch with
  | some b => if b.state = .armed then ((s.cutoverClear).startCutover b, .done, []) else refuse s .state
  | none => refuse s .state

/-- The meaning of CUTOVER_NOW (R130). -/
def execCutoverNow (src : Source) (s : State) : Host.Outcome State Fault Refusal := .next (takeRequest src 99 serveCutoverNow s)

/-- Batch Withdraw (R134). -/
def serveBatchWithdraw (_src : Source) (_params : List Byte) (s : State) : Reply :=
  match s.batch with
  | some b => if b.state = .armed then (s.startWithdraw b, .done, []) else refuse s .state
  | none => refuse s .state

/-- The meaning of BATCH_WITHDRAW (R134). -/
def execBatchWithdraw (src : Source) (s : State) : Host.Outcome State Fault Refusal := .next (takeRequest src 98 serveBatchWithdraw s)

/-- The code of the batch state, none 0, in the order of R138. -/
def batchStateCode : Option Batch → Nat
  | none => 0
  | some b =>
    match b.state with
    | .receiving => 1
    | .armed => 2
    | .cutting => 3
    | .withdrawing => 4

/-- The batch report (R138). Where no record exists no bytes stand for its fields, and where no Last Verdict exists its bytes
are 0 under its presence byte: both are the model's choice (log 9). -/
def State.batchReport (s : State) : List Byte :=
  be 1 (batchStateCode s.batch) ++
  (match s.batch with
    | some b => be 4 b.number ++ be 2 b.declared ++ be 2 b.received ++ be 2 b.rejected ++ be 2 b.nextPart ++
        beMomentOption b.cutoverTime ++ be 2 b.position
    | none => []) ++
  (match s.lastVerdict with
    | some v => [1#8] ++ be 4 v.number ++ be 1 (if v.good then 0 else 1) ++ be 2 v.rejected
    | none => [0#8] ++ be 7 0)

end Sys2Proof.Machine
end

