-- ==== Sys2Proof/Machine/NightLink.lean ====
section
/-! DEFINITION. The Night Link Engine (chapter 8) and the segments of Journal Blocks (R205): starting, opening, draining,
receiving, closing and ending a transfer session. Transfer Accept, which may set the time, stands in Schedule.lean. -/

namespace Sys2Proof.Machine

/-- The session record changed by a function. -/
def State.onSession (s : State) (f : Session → Session) : State := s.setSession (f s.session)

/-- The block timer setting in milliseconds (R162). -/
def State.blockTimerMs (s : State) : Nat := 1000 * s.settings.blockTimer

/-- The Timer started or restarted at the block timer setting. -/
def State.startTimer (s : State) : State := s.onSession (fun x => { x with timer := some s.blockTimerMs })

/-- Outstanding Blocks changed; a release notice not yet acted on stands only while a block waits (R39). -/
def Session.withOutstanding (x : Session) (bs : List OutBlock) : Session :=
  { x with outstanding := bs, releaseNotice := x.releaseNotice && ({ x with outstanding := bs } : Session).anyWaiting }

/-- The code of a session type, in the order of R141's table. -/
def sessionTypeCode : SessionType → Nat
  | .night => 0
  | .trickle => 1

/-- The session's type as its code; a session that is active has one. -/
def Session.typeCode (x : Session) : Nat := sessionTypeCode (x.type.getD .night)

/-! ### Starting (8.2) -/

/-- A taken start: the record afresh, and the journal report asked for (R143, R144, R145). -/
def State.startSession (s : State) (t : SessionType) : State :=
  s.onSession (fun x => { x with
    type := some t
    state := .opening
    openTag := wrap16 x.openTag
    sessionId := none
    window := none
    batchExpected := false
    drainMark := none
    nextSend := none
    nextBlock := 1
    outstanding := []
    retry := 0
    timer := none
    acknowledged := 0
    verdict := none
    reportAsked := true
    openOffered := false
    acked := none
    releaseNotice := false })

/-- A NIGHT-START firing: skipped in an active state (R143). -/
def State.startNight (s : State) : State := if s.session.state.active then s else s.startSession .night

/-- A Trickle start request from the Journal Unit (R144). -/
def State.trickleRequest (s : State) : State :=
  if s.settings.management.trickle = true ∧ s.mode = .trading ∧ s.session.state.active = false then s.startSession .trickle
  else s

/-- Night Link Start (R143). -/
def serveNightLinkStart (_src : Source) (_params : List Byte) (s : State) : Reply :=
  if s.session.state.active then refuse s .busy else (s.startSession .night, .done, [])

/-- The meaning of NIGHT_LINK_START (R143). -/
def execNightLinkStart (src : Source) (s : State) : Host.Outcome State Fault Refusal :=
  .next (takeRequest src 96 serveNightLinkStart s)

/-! ### Ending (8.7) -/

/-- What R159 does on entering Cut or Failed. NIGHT-CUT or NIGHT-FAILED is counted before a BATCH-DISCARDED of the same step: R159
lists them in one step without an order (the model's choice, log 53). -/
def State.endSession (s : State) (st : SessionState) (why : LastOutcome) (counted : EventKind) : State :=
  ((s.onSession (fun x => { x with
    state := st
    timer := none
    outstanding := []
    lastOutcome := some why
    reportAsked := false
    releaseNotice := false })).count counted).discardBatch

/-- The session is cut (R157, R158, R159). -/
def State.cutSession (s : State) (why : LastOutcome) : State := s.endSession .cut why .nightCut

/-- The session fails (R159). -/
def State.failSession (s : State) (why : LastOutcome) : State := s.endSession .failed why .nightFailed

/-- A NIGHT-END firing: any active session is cut (R158). -/
def State.endNight (s : State) : State := if s.session.state.active then s.cutSession .nightEnd else s

/-- Night Link Stop (R157). -/
def serveNightLinkStop (_src : Source) (_params : List Byte) (s : State) : Reply :=
  match s.session.state with
  | .opening | .receiving | .closing => (s.cutSession .stopped, .done, [])
  | .draining =>
    if s.session.outstanding.isEmpty then (s.cutSession .stopped, .done, [])
    else (s.onSession (fun x => { x with state := .stopping }), .done, [])
  | .stopping => (s, .done, [])
  | .idle | .done | .failed | .cut => refuse s .state

/-- The meaning of NIGHT_LINK_STOP (R157). -/
def execNightLinkStop (src : Source) (s : State) : Host.Outcome State Fault Refusal :=
  .next (takeRequest src 97 serveNightLinkStop s)

/-! ### Opening (8.3) -/

/-- The code of Store Mode (R12): Trading 0, Closed 1. -/
def storeModeCode : StoreMode → Nat
  | .trading => 0
  | .closed => 1

/-- The body of a Transfer Open, its fields in the order of R145's table; the Batch Number is written as an optional field,
absent where no record exists, which the spec does not say (the model's choice, log 9). -/
def State.transferOpenBody (s : State) : List Byte :=
  be 1 s.session.typeCode ++ be 2 s.settings.management.branch ++ beMoment s.clock.now ++ beBool s.clock.valid ++
  be 1 (storeModeCode s.mode) ++ beOption 4 s.journal.oldest ++ be 2 s.journal.slots.length ++
  be 1 (batchStateCode s.batch) ++ beOption 4 (s.batch.map Batch.number) ++ be 1 (causeByte s.management.causes) ++
  be 1 s.settings.windowLimit

/-- A Transfer Open built and offered, the Timer started (R145, R146). -/
def State.offerTransferOpen (s : State) : State :=
  ((s.sendHeadOffice 0x40 s.session.openTag s.transferOpenBody).onSession (fun x => { x with openOffered := true })).startTimer

/-- Whether the journal report of a session in Opening can be answered: asked for, and no scan runs (R84, R145). -/
def State.openDue (s : State) : Bool :=
  decide (s.session.state = .opening) && s.session.reportAsked && s.journal.scan.isNone

/-- The journal report answered: the Transfer Open is offered (R145). The spec gives the answer no moment of its own but the
scan's end: as the model's choice it is given by its own row, by the Recovery Scan's last step, or by the next advance where
it was left (log 42). -/
def State.transferOpen (s : State) : State :=
  if s.openDue then (s.onSession (fun x => { x with reportAsked := false, retry := 0 })).offerTransferOpen else s

/-- The meaning of TRANSFER_OPEN (R145). -/
def execTransferOpen (s : State) : Host.Outcome State Fault Refusal := .next s.transferOpen

/-- One step of the Recovery Scan; the step that ends the scan answers the journal report that waits for it, from the journal
the scan leaves (R84, R90, R145). -/
def State.scanStep (s : State) (damaged : Option Slot) : State :=
  let t := s.recoveryScanStep damaged
  if s.journal.scan.isSome = true ∧ t.journal.scan.isNone = true then t.transferOpen else t

/-- The meaning of RECOVERY_SCAN_STEP (R86). -/
def execRecoveryScanStep (damaged : Option Slot) (s : State) : Host.Outcome State Fault Refusal :=
  .next (s.scanStep damaged)

/-! ### Journal Blocks (8.4, 11.6) -/

/-- Records cut into segments, each as many whole records as fit in 1,494 bytes; `cur` is the segment being filled (R205). -/
def cutFrom : List Slot → List Slot → List (List Slot)
  | [], cur => if cur.isEmpty then [] else [cur]
  | x :: xs, cur =>
    if (cur.flatMap slotBytes).length + (slotBytes x).length ≤ 1494 then cutFrom xs (cur ++ [x])
    else cur :: cutFrom xs [x]

/-- The records of a block, read from the journal (R84, R148). -/
def State.blockRecords (s : State) (b : OutBlock) : List Slot := s.journal.read b.first b.records

/-- The body of a segment (11.3): number and count are the Segment Number and Segment Count. -/
def segmentBody (sessionId : Nat) (b : OutBlock) (number count : Nat) (records : List Slot) : List Byte :=
  be 4 sessionId ++ be 2 b.number ++ be 4 b.first ++ be 1 b.records ++ be 1 number ++ be 1 count ++ be 1 records.length ++
  records.flatMap slotBytes

/-- The bodies of segments numbered from `k` on. -/
def segmentBodies (sessionId : Nat) (b : OutBlock) (count : Nat) : List (List Slot) → Nat → List (List Byte)
  | [], _ => []
  | r :: rs, k => segmentBody sessionId b k count r :: segmentBodies sessionId b count rs (k + 1)

/-- The bodies of a block's segments, in Segment Number order (R205). -/
def State.blockSegments (s : State) (b : OutBlock) : List (List Byte) :=
  let cuts := cutFrom (s.blockRecords b) []
  segmentBodies (s.session.sessionId.getD 0) b cuts.length cuts 1

/-- One segment offered to UP as a Bulk class frame (R149, R205): its drops are not yet counted. -/
def State.offerSegment (s : State) (b : OutBlock) (body : List Byte) : State × Admission × List EventKind :=
  let r := s.admitFrame .bulk .generated (buildMessage 0x42 s.headOfficeStation s.managementAddress b.number body) [.up]
  (r.1.drawStation, r.2)

/-- Segments offered in order, `k` of the block admitted before them: at the first refused the block becomes Waiting, with
a drop counted at the block's first refusal alone; past the last it becomes Offered (R149, R205). -/
def offerSegments (b : OutBlock) : List (List Byte) → Nat → State → State × OutBlock
  | [], _, s => (s, { b with condition := .offered })
  | body :: rest, k, s =>
    let r := s.offerSegment b body
    match r.2.1 with
    | .stored _ => offerSegments b rest (k + 1) r.1
    | .refused =>
      (if b.counted then r.1 else r.1.countAll r.2.2, { b with condition := .waiting k, counted := true })

/-- A block's segments offered from number `k` + 1 on. -/
def State.offerBlock (s : State) (b : OutBlock) (k : Nat) : State × OutBlock := offerSegments b ((s.blockSegments b).drop k) k s

/-- The next new block, where R148 lets one be offered. -/
def Session.newBlock? (x : Session) : Option OutBlock :=
  match x.window, x.nextSend, x.drainMark with
  | some w, some q, some d =>
    if x.state = .draining ∧ x.outstanding.length < w ∧ x.anyWaiting = false ∧ q ≤ d then
      some ⟨x.nextBlock, q, min 32 (d - q + 1), .waiting 0, false⟩
    else none
  | _, _, _ => none

/-- A new block put in the record and offered (R148). After a block that ends at the greatest sequence Next Send is one above
it, outside R141's range: the model's choice, for the spec does not say what it then holds (log 48). -/
def State.sendBlock (s : State) (b : OutBlock) : State :=
  let s1 := s.onSession (fun x => { x with
    nextSend := some (b.first + b.records)
    nextBlock := x.nextBlock + 1
    timer := some (x.timer.getD s.blockTimerMs) })
  let r := s1.offerBlock b 0
  r.1.onSession (fun x => x.withOutstanding (x.outstanding ++ [r.2]))

/-- New blocks offered while R148 lets them be; the Window is at most 4. -/
def State.sendBlocksFrom : Nat → State → State
  | 0, s => s
  | n + 1, s =>
    match s.session.newBlock? with
    | some b => State.sendBlocksFrom n (s.sendBlock b)
    | none => s

/-- New blocks offered (R148). -/
def State.sendBlocks (s : State) : State := State.sendBlocksFrom 4 s

/-- Waiting blocks offered again, oldest first, each at its first held segment, up to the first refused (R149, R205). -/
def reofferBlocks : List OutBlock → State → State × List OutBlock
  | [], s => (s, [])
  | b :: bs, s =>
    match b.condition with
    | .offered =>
      let q := reofferBlocks bs s
      (q.1, b :: q.2)
    | .waiting k =>
      let r := s.offerBlock b k
      match r.2.condition with
      | .offered =>
        let q := reofferBlocks bs r.1
        (q.1, r.2 :: q.2)
      | .waiting _ => (r.1, r.2 :: bs)

/-- A release notice acted on in Draining and in Stopping; then new blocks where R148 lets them be (R149, log 29). -/
def State.reoffer (s : State) : State :=
  if s.session.releaseNotice = true ∧ (s.session.state = .draining ∨ s.session.state = .stopping) then
    let r := reofferBlocks s.session.outstanding s
    (r.1.onSession (fun x => { x.withOutstanding r.2 with releaseNotice := false })).sendBlocks
  else s

/-- The meaning of WAITING_BLOCK_REOFFER (R149). -/
def execWaitingBlockReoffer (s : State) : Host.Outcome State Fault Refusal := .next s.reoffer

/-- A block that a go-back resend leaves unoffered: it waits, from its first held segment where it waited already, from
Segment Number 1 where it was Offered (R151, R205). -/
def heldBack (b : OutBlock) : OutBlock :=
  match b.condition with
  | .offered => { b with condition := .waiting 0 }
  | .waiting _ => b

/-- A go-back resend, oldest first (R151, R205). -/
def resendBlocks : List OutBlock → State → State × List OutBlock
  | [], s => (s, [])
  | b :: bs, s =>
    let r := s.offerBlock b (match b.condition with
      | .offered => 0
      | .waiting k => k)
    match r.2.condition with
    | .offered =>
      let q := resendBlocks bs r.1
      (q.1, r.2 :: q.2)
    | .waiting _ => (r.1, r.2 :: bs.map heldBack)

/-- Every outstanding block sent again (R151). -/
def State.resend (s : State) : State :=
  let r := resendBlocks s.session.outstanding s
  r.1.onSession (fun x => x.withOutstanding r.2)

/-! ### Receiving and closing (8.5, 8.6) -/

/-- Receiving entered (R153). -/
def State.enterReceiving (s : State) : State := (s.onSession (fun x => { x with state := .receiving, retry := 0 })).startTimer

/-- The code of the verdict a Transfer End carries: Good, Bad, No Batch, None (R155, log 9). -/
def endVerdictCode : Option (VerdictKind × Nat) → Nat
  | some (v, _) => verdictCode v
  | none => 3

/-- The body of a Transfer End, its fields in the order of R155's table (log 9). R155 does not call the Batch Number optional: where
the Verdict is None it is written as an absent optional field after None's code, 3 (the model's choice, log 9). -/
def State.transferEndBody (s : State) : List Byte :=
  be 4 (s.session.sessionId.getD 0) ++ be 1 s.session.typeCode ++ be 2 s.session.acknowledged ++
  beOption 4 (s.session.acked.map Prod.fst) ++ beOption 4 (s.session.acked.map Prod.snd) ++
  be 1 (endVerdictCode s.session.verdict) ++ beOption 4 (s.session.verdict.map Prod.snd)

/-- A Transfer End offered and the Timer started (R155, R156). -/
def State.offerTransferEnd (s : State) : State :=
  (s.sendHeadOffice 0x49 s.session.openTag s.transferEndBody).startTimer

/-- Closing entered (R155). -/
def State.enterClosing (s : State) : State := (s.onSession (fun x => { x with state := .closing, retry := 0 })).offerTransferEnd

/-- Whether draining has ended (R152). -/
def Session.drained (x : Session) : Bool :=
  x.outstanding.isEmpty &&
  match x.nextSend, x.drainMark with
  | some q, some d => decide (d < q)
  | _, _ => true

/-- The end of draining checked (R152). -/
def State.checkDrained (s : State) : State :=
  if s.session.state = .draining ∧ s.session.drained = true then
    if s.session.type = some .night ∧ s.session.batchExpected = true then s.enterReceiving else s.enterClosing
  else s

/-- New blocks offered and the end of draining checked, at a Transfer Accept with Go and at each ack (R147, R150). -/
def State.drainOn (s : State) : State := s.sendBlocks.checkDrained

/-! ### The Timer (8.3 to 8.7) -/

/-- Retry Count raised by the Timer's expiry: at 3 the session fails, below it goes on (R146, R151, R154, R156). -/
def State.retryOr (s : State) (why : LastOutcome) (again : State → State) : State :=
  let s1 := s.onSession (fun x => { x with retry := x.retry + 1 })
  if 3 ≤ s1.session.retry then s1.failSession why else again s1

/-- The session Timer's expiry (R146, R151, R154, R156, R157). -/
def State.blockTimerExpiry (s : State) : State :=
  if s.session.timer = some 0 then
    match s.session.state with
    | .opening => s.retryOr .openUnanswered State.offerTransferOpen
    | .draining => s.retryOr .blocksUnacknowledged (fun t => (t.resend.startTimer).sendBlocks)
    | .stopping => s.cutSession .stopped
    | .receiving => s.retryOr .batchSilent State.startTimer
    | .closing => s.retryOr .endUnanswered State.offerTransferEnd
    | .idle | .done | .failed | .cut => s
  else s

/-- The meaning of BLOCK_TIMER_EXPIRY (R151). -/
def execBlockTimerExpiry (s : State) : Host.Outcome State Fault Refusal := .next s.blockTimerExpiry

/-! ### Head office's messages (8.8) -/

/-- A message discarded for its check value or its length (R161). -/
def State.nightError (s : State) : State := s.onSession (fun x => { x with messageErrors := bump16 x.messageErrors })

/-- A message out of place (R161). -/
def State.misplacedMessage (s : State) : State := s.onSession (fun x => { x with outOfPlace := bump16 x.outOfPlace })

/-- A head-office message taken: UP's Link, then the envelope and the body's own checks, then the rest (R161, R203). -/
def takeOffice (bodyOk : List Byte → Bool) (serve : List Byte → State → State) (f : List Byte) (s : State) : State :=
  if s.isUp .up then if envelopeOk f && bodyOk (frameBody f) then serve f s else s.nightError
  else s

/-- The oldest message handed on from UP taken if it is one of a kind; what then stands first there and is a request no row
takes is answered (log 2, log 3). -/
def takeFromOffice (kind : Nat) (bodyOk : List Byte → Bool) (serve : List Byte → State → State) (s : State) : State :=
  takeMessage .up kind (fun f t => (takeOffice bodyOk serve f t).serveUnassigned .up) s

/-- Whether a Block Ack's block number lies above the newest outstanding (R150). -/
def Session.aboveNewest (x : Session) (n : Nat) : Bool :=
  match x.outstanding.getLast? with
  | some b => decide (b.number < n)
  | none => decide (x.nextBlock ≤ n)

/-- The outstanding blocks up to `n` acknowledged (R150). -/
def State.acknowledge (s : State) (n : Nat) : State :=
  let gone := s.session.outstanding.filter (fun b => decide (b.number ≤ n))
  let left := s.session.outstanding.filter (fun b => !decide (b.number ≤ n))
  match gone.head?, gone.getLast? with
  | some a, some z =>
    let last := z.first + z.records - 1
    let s1 := s.onJournal (fun j => j.removeTo last)
    let s2 := s1.onSession (fun x => { x.withOutstanding left with
      acknowledged := x.acknowledged + (gone.map OutBlock.records).sum
      acked := some ((x.acked.map Prod.fst).getD a.first, last)
      retry := 0
      timer := if left.isEmpty then none else some s.blockTimerMs })
    match s2.session.state with
    | .stopping => if left.isEmpty then s2.cutSession .stopped else s2
    | .idle | .opening | .draining | .receiving | .closing | .done | .failed | .cut => s2.drainOn
  | _, _ => s

/-- A Block Ack that passed its checks (R150, R161). -/
def State.blockAck (f : List Byte) (s : State) : State :=
  let n := fieldAt (frameBody f) 4 2
  if s.session.sessionId = some (fieldAt (frameBody f) 0 4) then
    match s.session.state with
    | .draining | .stopping =>
      if s.session.aboveNewest n then s.misplacedMessage
      else if fieldAt (frameBody f) 6 1 = 1 then s.failSession .blockRejected
      else s.acknowledge n
    | .receiving | .closing => if n < s.session.nextBlock then s else s.misplacedMessage
    | .idle | .opening | .done | .failed | .cut => s.misplacedMessage
  else s.misplacedMessage

/-- A Block Ack's body has 8 bytes and a status within its list (R203). -/
def blockAckOk (b : List Byte) : Bool := decide (b.length = 8) && decide (fieldAt b 6 1 ≤ 1)

/-- The meaning of BLOCK_ACK (R150). -/
def execBlockAck (s : State) : Host.Outcome State Fault Refusal := .next (takeFromOffice 0x43 blockAckOk State.blockAck s)

/-- An End Ack that passed its checks (R156). -/
def State.endAck (f : List Byte) (s : State) : State :=
  if s.session.sessionId = some (fieldAt (frameBody f) 0 4) then
    match s.session.state with
    | .closing =>
      (s.onSession (fun x => { x with state := .done, timer := none, lastOutcome := some .complete })).count .nightDone
    | .done => s
    | .idle | .opening | .draining | .stopping | .receiving | .failed | .cut => s.misplacedMessage
  else s.misplacedMessage

/-- An End Ack's body has 4 bytes (R156). -/
def endAckOk (b : List Byte) : Bool := decide (b.length = 4)

/-- The meaning of END_ACK (R156). -/
def execEndAck (s : State) : Host.Outcome State Fault Refusal := .next (takeFromOffice 0x4A endAckOk State.endAck s)

/-- A batch message handed on in Receiving restarts the Timer and sets Retry Count to 0 (R153). -/
def State.batchHeard (s : State) : State := (s.onSession (fun x => { x with retry := 0 })).startTimer

/-- A Part Ack offered to UP with the answered message's tag (R123, R153, R204). -/
def State.offerPartAck (s : State) (f : List Byte) (st : PartStatus) (results : List ChangeResult) : State :=
  (s.sendHeadOffice 0x46 (frameTag f) (s.partAckBody (fieldAt (frameBody f) 0 4) st results)).drawCounts

/-- A Batch Open that passed its checks (R124, R153, R161): Batch Number, Declared Change Count, optional Cutover Time. -/
def State.takeBatchOpen (f : List Byte) (s : State) : State :=
  if s.session.state = .receiving then
    let b := frameBody f
    let r := (s.batchHeard).openBatch (fieldAt b 0 4) (fieldAt b 4 2) ((momentOptionAt b 6).getD none)
    r.1.offerPartAck f r.2 []
  else s.misplacedMessage

/-- A Batch Open's body: 4, 2 and an optional pair of Store Time (log 9, log 23). -/
def batchOpenOk (b : List Byte) : Bool := decide (b.length = 13) && (momentOptionAt b 6).isSome

/-- The meaning of BATCH_OPEN (R124). -/
def execBatchOpen (s : State) : Host.Outcome State Fault Refusal := .next (takeFromOffice 0x44 batchOpenOk State.takeBatchOpen s)

/-- A Batch Part that passed its checks (R125, R153, R161). -/
def State.takeBatchPart (f : List Byte) (s : State) : State :=
  if s.session.state = .receiving then
    let b := frameBody f
    let n := fieldAt b 6 1
    let r := (s.batchHeard).batchPart (fieldAt b 0 4) (fieldAt b 4 2) n (piecesAt b 8 12 n)
    r.1.offerPartAck f r.2.1 r.2.2
  else s.misplacedMessage

/-- A Batch Part's length: 8 + 12n for a change count n of 1-64; another count is judged by R125 (R203
step 4). One shorter than its 8 bytes, whatever its count, is a body length disagreement: the spec names no such case (the
model's reading, log 24). -/
def batchPartOk (b : List Byte) : Bool :=
  decide (8 ≤ b.length) &&
  (decide (fieldAt b 6 1 = 0) || decide (64 < fieldAt b 6 1) || decide (b.length = 8 + 12 * fieldAt b 6 1))

/-- The meaning of BATCH_PART (R125). -/
def execBatchPart (s : State) : Host.Outcome State Fault Refusal := .next (takeFromOffice 0x45 batchPartOk State.takeBatchPart s)

/-- A Batch Close handed to the Batch Unit and its Batch Verdict offered (R127, R128, R204): the state and the verdict. What the
close counts, with its notices, comes before the Batch Verdict is offered (the model's choice, log 51). -/
def State.answerClose (f : List Byte) (s : State) : State × VerdictKind :=
  let b := frameBody f
  let r := s.closeBatch (fieldAt b 0 4) (fieldAt b 4 2) (fieldAt b 6 4)
  (r.1.sendHeadOffice 0x48 (frameTag f) (verdictBody (fieldAt b 0 4) r.2.1 r.2.2), r.2.1)

/-- A Batch Close that passed its checks (R127, R153, R155, R161): Batch Number, change count, check value. Three points the spec
leaves open are the model's choice: a Batch Close taken in Closing leaves the Timer and Retry Count (log 46), and where
Receiving ends with a batch still Open, the Batch Verdict is offered before BATCH-DISCARDED is counted (log 71) and the
Transfer End after it (log 47). -/
def State.takeBatchClose (f : List Byte) (s : State) : State :=
  match s.session.state with
  | .receiving =>
    let r := State.answerClose f s.batchHeard
    (((r.1.onSession (fun x => { x with verdict := some (r.2, fieldAt (frameBody f) 0 4) })).discardBatch).enterClosing)
  | .closing => (State.answerClose f s).1
  | .idle | .opening | .draining | .stopping | .done | .failed | .cut => s.misplacedMessage

/-- A Batch Close's body: 4, 2 and 4 bytes (log 9). -/
def batchCloseOk (b : List Byte) : Bool := decide (b.length = 10)

/-- The meaning of BATCH_CLOSE (R127). -/
def execBatchClose (s : State) : Host.Outcome State Fault Refusal := .next (takeFromOffice 0x47 batchCloseOk State.takeBatchClose s)

/-! ### Transfer Accept (R147), less the time it may set -/

/-- Steps 2 to 4 of R147 for an accepted body: Session Id, status, window offer, Batch Expected. -/
def State.accept (s : State) (sessionId : Nat) (declined : Bool) (offer : Nat) (batch : Bool) : State :=
  if declined then
    s.onSession (fun x => { x with timer := none, sessionId := some sessionId, state := .done, lastOutcome := some .declined })
  else
    (s.onSession (fun x => { x with
      timer := none
      sessionId := some sessionId
      window := some (min (max 1 (min offer 4)) s.settings.windowLimit)
      batchExpected := batch && decide (x.type = some .night)
      retry := 0
      drainMark := s.journal.newest
      nextSend := s.journal.oldest
      state := .draining })).drainOn

/-- Whether a Transfer Accept is in its place: Opening, once a Transfer Open has been offered, with the Open Tag (R147). -/
def State.acceptInPlace (s : State) (f : List Byte) : Bool :=
  decide (s.session.state = .opening) && s.session.openOffered && decide (frameTag f = s.session.openTag)

/-- A Transfer Accept's body: Session Id 4, status, window offer, Batch Expected, optional Store Time (R147, R203, log 9). -/
def transferAcceptOk (b : List Byte) : Bool :=
  decide (b.length = 14) && decide (fieldAt b 4 1 ≤ 1) && decide (fieldAt b 6 1 ≤ 1) && (momentOptionAt b 7).isSome

/-! ### Reports (R163) -/

/-- The code of a session state, in the order of R141's table. -/
def sessionStateCode : SessionState → Nat
  | .idle => 0
  | .opening => 1
  | .draining => 2
  | .stopping => 3
  | .receiving => 4
  | .closing => 5
  | .done => 6
  | .failed => 7
  | .cut => 8

/-- The code of a Last Outcome, in the order of R163's table. -/
def lastOutcomeCode : LastOutcome → Nat
  | .complete => 0
  | .declined => 1
  | .openUnanswered => 2
  | .blocksUnacknowledged => 3
  | .blockRejected => 4
  | .batchSilent => 5
  | .endUnanswered => 6
  | .stopped => 7
  | .nightEnd => 8
  | .reset => 9

/-- An outstanding block in the session report: number, First Sequence, Record Count, Condition (Offered 0, Waiting 1). -/
def outBlockBytes (b : OutBlock) : List Byte :=
  be 2 b.number ++ be 4 b.first ++ be 1 b.records ++ be 1 (match b.condition with
    | .offered => 0
    | .waiting _ => 1)

/-- A verdict in the session report: one optional field, the verdict and its Batch Number under one presence byte (R141, R163,
R202); where it is absent the value's bytes are 0 (log 9). -/
def verdictFieldBytes : Option (VerdictKind × Nat) → List Byte
  | some (v, number) => [1#8] ++ be 1 (verdictCode v) ++ be 4 number
  | none => [0#8] ++ be 1 0 ++ be 4 0

/-- The session report (R163, log 9). Type before any session and the time left of a stopped Timer have no value: both are
written as optional fields, absent then (the model's choice, log 9). A Next Send one above the greatest sequence shows as 0 in
its 4 bytes (the model's choice, log 48). -/
def State.sessionReport (s : State) : List Byte :=
  let x := s.session
  beOption 1 (x.type.map sessionTypeCode) ++ be 1 (sessionStateCode x.state) ++ beOption 4 x.sessionId ++
  beOption 1 x.window ++ beBool x.batchExpected ++ beOption 4 x.drainMark ++ beOption 4 x.nextSend ++ be 2 x.nextBlock ++
  be 1 x.outstanding.length ++ x.outstanding.flatMap outBlockBytes ++ be 1 x.retry ++ beOption 4 x.timer ++
  be 2 x.acknowledged ++ verdictFieldBytes x.verdict ++ beOption 1 (x.lastOutcome.map lastOutcomeCode)

end Sys2Proof.Machine
end

