-- ==== Sys2Proof/Machine/Schedule.lean ====
section
/-! DEFINITION. The firing of the schedule slots (chapter 1), Set Time, Set Schedule Slot, and Transfer Accept, which may set
the time. -/

namespace Sys2Proof.Machine

/-! ### Firing (R7, R9, R10) -/

/-- The action of a daily slot handed to its block (R10). -/
def State.slotAction (s : State) : DailyName → State
  | .storeOpen => s.askMode .trading
  | .storeClose => s.askMode .closed
  | .nightStart => s.startNight
  | .nightEnd => s.endNight

/-- A daily slot fired where it is due: its Fired Day becomes the current day and its action is handed on (R7). Whether it is
due is judged afresh here: what becomes of a slot that an advance has made due where a set, a Set Schedule Slot or a reset is
taken first, the spec does not say, and a backward set may leave it unfired (the model's choice, log 65). -/
def State.fireDaily (s : State) (n : DailyName) : State := if s.dailyDue n then (s.markFired n).slotAction n else s

/-- CUTOVER fired where it is due: it disarms and the Batch Unit is told (R9). Whether it is due is judged afresh, as for a
daily slot (the model's choice, log 65). -/
def State.fireCutover (s : State) : State :=
  if s.cutoverDue then (s.setSchedule { s.schedule with cutover := none }).cutoverRequest else s

/-- A daily slot put in its place among others by time of day. -/
def insertByTime (c : Schedule) (n : DailyName) : List DailyName → List DailyName
  | [] => [n]
  | m :: ms => if (c.daily n).time.getD 0 ≤ (c.daily m).time.getD 0 then n :: m :: ms else m :: insertByTime c n ms

/-- The four daily slots, earliest time of day first. -/
def Schedule.dailyOrder (c : Schedule) : List DailyName := dailyNames.foldr (insertByTime c) []

/-- Whether a daily slot's moment on the current day is at or before CUTOVER's (R5). -/
def State.beforeCutover (s : State) (n : DailyName) : Bool :=
  match (s.schedule.daily n).time, s.schedule.cutover with
  | some t, some m => Moment.le ⟨s.clock.now.day, t⟩ m
  | _, _ => true

/-- Every due slot fired, in the order of the moments they name, a daily slot before CUTOVER on one moment (R5, R7). -/
def State.fireDue (s : State) : State :=
  let order := s.schedule.dailyOrder
  let s1 := (order.filter s.beforeCutover).foldl State.fireDaily s
  (order.filter (fun n => !s.beforeCutover n)).foldl State.fireDaily s1.fireCutover

/-- The meaning of STORE_OPEN (R7, R12). -/
def execStoreOpen (s : State) : Host.Outcome State Fault Refusal := .next (s.fireDaily .storeOpen)

/-- The meaning of STORE_CLOSE (R7, R12). -/
def execStoreClose (s : State) : Host.Outcome State Fault Refusal := .next (s.fireDaily .storeClose)

/-- The meaning of NIGHT_START (R7, R143). -/
def execNightStart (s : State) : Host.Outcome State Fault Refusal := .next (s.fireDaily .nightStart)

/-- The meaning of NIGHT_END (R7, R158). -/
def execNightEnd (s : State) : Host.Outcome State Fault Refusal := .next (s.fireDaily .nightEnd)

/-- The meaning of CUTOVER (R9, R130). -/
def execCutover (s : State) : Host.Outcome State Fault Refusal := .next s.fireCutover

/-! ### Sets (R4 to R6) -/

/-- What a set of a kind fires: a forward set every due slot, a first or backward set CUTOVER alone, an equal set nothing
(R5, R6). So too where an advance had made a slot due before the set: it is judged at the new time (the model's choice,
log 65). -/
def State.fireAfter (s : State) : SetKind → State
  | .forward => s.fireDue
  | .first | .backward => s.fireCutover
  | .equal => s

/-- Set Time (R4): day, millisecond of day. TIME-SET and the notice it may bring come before the response (the model's choice,
log 51). -/
def serveSetTime (_src : Source) (params : List Byte) (s : State) : Reply :=
  let m : Moment := ⟨fieldAt params 0 2, fieldAt params 2 4⟩
  if params.length < 6 ∨ dayMs ≤ m.ms then refuse s .range
  else ((s.loadTime m).fireAfter (s.setKind m), .done, [])

/-- The meaning of SET_TIME (R4). -/
def execSetTime (src : Source) (s : State) : Host.Outcome State Fault Refusal := .next (takeRequest src 16 serveSetTime s)

/-- The head-office time of an accepted body, a millisecond above 86,399,999 taken as 86,399,999 (R4). -/
def acceptTime (b : List Byte) : Option Moment :=
  ((momentOptionAt b 7).getD none).map (fun m => ⟨m.day, min m.ms (dayMs - 1)⟩)

/-- The Session Id, status, window offer and Batch Expected of an accepted body, taken (R147 steps 2 to 4). -/
def State.acceptBody (s : State) (b : List Byte) : State :=
  s.accept (fieldAt b 0 4) (decide (fieldAt b 4 1 = 1)) (fieldAt b 5 1) (decide (fieldAt b 6 1 = 1))

/-- A Transfer Accept that passed its checks (R147): a slot its time fires acts after the Accept has been taken. -/
def State.transferAccept (f : List Byte) (s : State) : State :=
  let b := frameBody f
  if s.acceptInPlace f then
    match acceptTime b with
    | some m =>
      if s.settings.management.takeOfficeTime then ((s.loadTime m).acceptBody b).fireAfter (s.setKind m) else s.acceptBody b
    | none => s.acceptBody b
  else s.misplacedMessage

/-- The meaning of TRANSFER_ACCEPT (R147). -/
def execTransferAccept (s : State) : Host.Outcome State Fault Refusal :=
  .next (takeFromOffice 0x41 transferAcceptOk State.transferAccept s)

/-! ### Set Schedule Slot (R8) -/

/-- Whether another daily slot holds a time. -/
def State.timeTaken (s : State) (n : DailyName) (t : Nat) : Bool :=
  dailyNames.any (fun m => decide (m ≠ n) && decide ((s.schedule.daily m).time = some t))

/-- A taken request for a daily slot (R8). A slot that an advance had made due and whose row has not come is judged by the new
time from then on (the model's choice, log 65). -/
def State.setDailySlot (s : State) (n : DailyName) (t : Option Nat) : State :=
  let s1 := s.setSchedule (s.schedule.setDaily n { s.schedule.daily n with time := t })
  match t with
  | some x => if s.clock.valid = true ∧ x ≤ s.clock.now.ms then s1.markFired n else s1
  | none => s1

/-- A taken request for CUTOVER, while the batch is Armed: the slot and the record's Cutover Time change together, and a time
already reached fires (R8, R130). -/
def State.setCutoverSlot (s : State) (b : Batch) (m : Option Moment) : State :=
  ((s.setSchedule { s.schedule with cutover := m }).setBatch (some { b with cutoverTime := m })).fireCutover

/-- A request for a daily slot: an optional millisecond of day. -/
def State.serveDaily (s : State) (n : DailyName) (params : List Byte) : Reply :=
  if params.length < 6 then refuse s .range
  else
    match optionAt params 1 4 with
    | none => refuse s .range
    | some none => (s.setDailySlot n none, .done, [])
    | some (some t) =>
      if dayMs ≤ t ∨ s.timeTaken n t = true then refuse s .range else (s.setDailySlot n (some t), .done, [])

/-- A request for CUTOVER: an optional pair. -/
def State.serveCutoverSlot (s : State) (params : List Byte) : Reply :=
  if params.length < 8 then refuse s .range
  else
    match momentOptionAt params 1 with
    | none => refuse s .range
    | some m =>
      if (m.any (fun x => decide (dayMs ≤ x.ms))) = true then refuse s .range
      else
        match s.batch with
        | some b => if b.state = .armed then (s.setCutoverSlot b m, .done, []) else refuse s .state
        | none => refuse s .state

/-- Set Schedule Slot (R8): the slot in the order of 1.3's table, then its time (log 9). -/
def serveSetScheduleSlot (_src : Source) (params : List Byte) (s : State) : Reply :=
  if params.length < 1 then refuse s .range
  else
    match dailyNames[fieldAt params 0 1]? with
    | some n => s.serveDaily n params
    | none => if fieldAt params 0 1 = 4 then s.serveCutoverSlot params else refuse s .range

/-- The meaning of SET_SCHEDULE_SLOT (R8). -/
def execSetScheduleSlot (src : Source) (s : State) : Host.Outcome State Fault Refusal :=
  .next (takeRequest src 17 serveSetScheduleSlot s)

end Sys2Proof.Machine
end

