-- ==== Sys2Proof/Machine/Sales.lean ====
section
/-! DEFINITION. Taking a Sale Record (chapter 5): its checks, the line flags, the store, the High Mark and the receipt. -/

namespace Sys2Proof.Machine

/-- A Sale Record as the body carries it (11.3); the counts and flags the part fills are not read. -/
structure SaleOffer where
  till : Nat
  transaction : Nat
  tender : Nat
  count : Nat
  total : Int
  lines : List (List Byte)
  length : Nat
  deriving DecidableEq, Repr

/-- The fields of a Sale Record's body (11.3). In a body too short to hold its numbers a number is read from the bytes there
are, and the receipt carries it so: the model's choice (R82, log 24). -/
def saleOffer (b : List Byte) : SaleOffer where
  till := fieldAt b 0 2
  transaction := fieldAt b 2 4
  tender := fieldAt b 6 1
  count := fieldAt b 7 1
  total := signedAt b 10
  lines := piecesAt b 14 16 (fieldAt b 7 1)
  length := b.length

/-- A line entry of 16 bytes, the part's flags clear (11.3, R77). -/
def offeredLine (e : List Byte) : Line where
  code := fieldAt e 0 6
  quantity := signedAt e 6
  unitPrice := fieldAt e 10 4
  override := decide (fieldAt e 14 1 % 2 = 1)
  overcharge := false
  blocked := false
  unknown := false

/-- A line's fields lie within their ranges (R77). -/
def lineOk (l : Line) : Bool :=
  codeOk l.code && decide (-1000000 ≤ l.quantity) && decide (l.quantity ≤ 1000000) && decide (l.quantity ≠ 0) &&
  decide (l.unitPrice ≤ maxPrice)

/-- The tender kind of a code (11.3). -/
def tenderOf? (n : Nat) : Option Tender := [Tender.cash, .card, .voucher, .mixed][n]?

/-- Step 2: the body is well formed (R77). -/
def saleWellFormed (o : SaleOffer) : Bool :=
  decide (1 ≤ o.transaction) && (tenderOf? o.tender).isSome && decide (1 ≤ o.count) && decide (o.count ≤ 48) &&
  decide (o.length = 14 + 16 * o.count) && o.lines.all (fun e => lineOk (offeredLine e))

/-- Statuses of a Sale Receipt with what each carries (R82). -/
inductive Receipt
  | stored (sequence overcharges blocked : Nat)
  | duplicate (sequence : Nat)
  | notSignedOn
  | malformed
  | outOfOrder (last : Nat)
  | scanning
  | full
  | exhausted
  | unverified
  deriving DecidableEq, Repr

/-- The fields of a receipt after the transaction number: status, reason, Journal Sequence, Last Transaction Number, the two
counts (11.3, R202). Overcharge Count and Blocked Count of a receipt other than Stored are 0, which 11.3 does not say (the
model's choice, log 55). -/
def receiptFields : Receipt → List Byte
  | .stored q o b => be 1 0 ++ be 1 0 ++ be 4 q ++ be 4 0 ++ be 1 o ++ be 1 b
  | .duplicate q => be 1 1 ++ be 1 0 ++ be 4 q ++ be 4 0 ++ be 1 0 ++ be 1 0
  | .notSignedOn => be 1 2 ++ be 1 1 ++ be 4 0 ++ be 4 0 ++ be 1 0 ++ be 1 0
  | .malformed => be 1 2 ++ be 1 2 ++ be 4 0 ++ be 4 0 ++ be 1 0 ++ be 1 0
  | .outOfOrder last => be 1 2 ++ be 1 3 ++ be 4 0 ++ be 4 last ++ be 1 0 ++ be 1 0
  | .scanning => be 1 3 ++ be 1 1 ++ be 4 0 ++ be 4 0 ++ be 1 0 ++ be 1 0
  | .full => be 1 3 ++ be 1 2 ++ be 4 0 ++ be 4 0 ++ be 1 0 ++ be 1 0
  | .exhausted => be 1 3 ++ be 1 3 ++ be 4 0 ++ be 4 0 ++ be 1 0 ++ be 1 0
  | .unverified => be 1 3 ++ be 1 4 ++ be 4 0 ++ be 4 0 ++ be 1 0 ++ be 1 0

/-- The event a receipt counts (R75). -/
def receiptEvent : Receipt → Option EventKind
  | .stored _ _ _ => none
  | .duplicate _ => some .duplicateSale
  | .notSignedOn | .malformed | .outOfOrder _ => some .tillRefused
  | .scanning | .full | .exhausted | .unverified => some .journalHeld

/-- Step 5: one line flagged by the first case that applies (R80). -/
def State.flagLine (s : State) (l : Line) : Line :=
  match s.findItem l.code with
  | none => { l with unknown := true }
  | some (_, it) =>
    match it.ceiling with
    | none => { l with unknown := true }
    | some c =>
      if it.flags.blocked then { l with blocked := true }
      else if 0 < l.quantity ∧ l.override = false ∧ c < l.unitPrice then { l with overcharge := true }
      else l

/-- The event a flagged line counts (R80). -/
def lineEvents (l : Line) : List EventKind :=
  if l.blocked then [.blockedSale] else if l.overcharge then [.overcharge] else []

/-- The record as it is stored (R80, R81). -/
def State.saleRecordOf (s : State) (o : SaleOffer) (tender : Tender) (sequence : Nat) (lines : List Line) : SaleRecord where
  sequence := sequence
  till := o.till
  transaction := o.transaction
  stamp := s.clock.now
  timeValid := s.clock.valid
  tender := tender
  total := o.total
  lines := lines
  overchargeCount := lines.countP Line.overcharge
  blockedCount := lines.countP Line.blocked

/-- The High Mark applied after a store (R83). -/
def State.applyHighMark (s : State) (before : Nat) : State :=
  let n := s.journal.slots.length
  let s1 := if before < s.settings.highMark ∧ s.settings.highMark ≤ n then s.count .journalHigh else s
  if s.settings.highMark ≤ n then s1.trickleRequest else s1

/-- Steps 5 and 6: the lines checked and the record stored (R80, R81). -/
def State.storeSale (s : State) (o : SaleOffer) (t : Till) (tender : Tender) (q : Nat) : State × Receipt :=
  let lines := o.lines.map (fun e => s.flagLine (offeredLine e))
  let s1 := s.countAll (lines.flatMap lineEvents)
  let r := s.saleRecordOf o tender q lines
  let s2 := (s1.onJournal (fun j => j.append (writtenSlot r))).setTills
    (Table.put o.till { t with lastTransaction := some o.transaction, lastSequence := some q } s1.tills)
  (s2.applyHighMark s.journal.slots.length, .stored q r.overchargeCount r.blockedCount)

/-- Step 4 and on: the record held back or stored (R79). -/
def State.holdOrStore (s : State) (o : SaleOffer) (t : Till) : State × Receipt :=
  if ringSlots ≤ s.journal.slots.length then (s, .full)
  else
    match s.journal.nextSequence, tenderOf? o.tender with
    | none, _ => (s, .exhausted)
    | some _, none => (s, .malformed)
    | some q, some tender =>
      if s.journal.overflowMark.isSome = true ∧ t.lastTransaction.isNone = true then (s, .unverified)
      else s.storeSale o t tender q

/-- Step 3 and on: the transaction number against the till's last one (R78). -/
def State.orderSale (s : State) (o : SaleOffer) (t : Till) : State × Receipt :=
  match t.lastTransaction with
  | none => s.holdOrStore o t
  | some last =>
    if o.transaction = last then (s, .duplicate (t.lastSequence.getD 0))
    else if o.transaction < last then (s, .outOfOrder last)
    else s.holdOrStore o t

/-- The till record of a number Signed-On on a port (R76). -/
def State.signedOnAt (s : State) (n : Fin 16) (number : Nat) : Option Till :=
  match s.tills.get? number with
  | some t => if t.port = some n ∧ 1 ≤ number ∧ number ≤ 999 then some t else none
  | none => none

/-- Steps c and 1 and on (R75). -/
def State.judgeSale (s : State) (n : Fin 16) (o : SaleOffer) : State × Receipt :=
  if s.journal.scan.isSome then (s, .scanning)
  else
    match s.signedOnAt n o.till with
    | none => (s, .notSignedOn)
    | some t => if saleWellFormed o then s.orderSale o t else (s, .malformed)

/-- A journal message error counted (R74). -/
def State.journalError (s : State) : State := s.onJournal (fun j => { j with messageErrors := bump16 j.messageErrors })

/-- A Sale Record handed on is taken (R75). What its receipt counts is counted, and its Event Notice offered, before the receipt
is offered: the spec gives no order (the model's choice, log 37). -/
def State.takeSaleRecord (n : Fin 16) (f : List Byte) (s : State) : State :=
  if s.isUp (.t n) then
    if envelopeOk f then
      let o := saleOffer (frameBody f)
      let r := s.judgeSale n o
      let s1 := r.1.countAll (receiptEvent r.2).toList
      (s1.send 0x07 (.t n) (frameSource f) (frameTag f) (be 2 o.till ++ be 4 o.transaction ++ receiptFields r.2)).1
    else s.journalError
  else s

/-- The meaning of SALE_RECORD (R75). -/
def execSaleRecord (n : Fin 16) (s : State) : Host.Outcome State Fault Refusal :=
  .next (takeMessage (.t n) 0x06 (State.takeSaleRecord n) s)

end Sys2Proof.Machine
end

