-- ==== Sys2Proof/Machine/Classifier.lean ====
section
/-! DEFINITION. The Port Interfaces' receivers and the Frame Classifier (chapter 2): acceptance, learning, branch messages,
resolution, the guest filter, target sets and classes; the zone matrix and address operations. -/

namespace Sys2Proof.Machine

/-! ### The Zone Pass Matrix and the Address Table -/

/-- Whether the matrix permits a source zone to a destination zone; the fixed cells deny (R20). -/
def State.permits (s : State) (src dst : Zone) : Bool := !fixedCell src dst && s.settings.queue.matrix[matrixIndex src dst]

/-- An Address Table entry made or set. -/
def State.putAddress (s : State) (a : Station) (e : AddressEntry) : State := s.setAddresses (Table.put a.toNat e s.addresses)

/-- An Address Table entry removed. -/
def State.dropAddress (s : State) (a : Station) : State := s.setAddresses (Table.del a.toNat s.addresses)

/-- Every entry naming a port removed (R25). -/
def State.flushPort (s : State) (p : PortId) : State := s.setAddresses (s.addresses.keep (fun e => decide (e.port ≠ p)))

/-- An arrival on CTL, a T port or a B port learned (R22). Where the Guest Session Table holds the source and the Address Table is
full, rows 1 and 3 of R22's table both speak of the arrival: row 1 is taken, so that ADDR-FULL is not counted (the model's
choice, log 66). -/
def State.learn (s : State) (p : PortId) (a : Station) : State :=
  match s.findAddress a with
  | some _ => s.putAddress a ⟨p, s.settings.queue.ageTime, 0⟩
  | none =>
    if (s.findGuest a).isSome then s
    else if s.addresses.length < 2048 then s.putAddress a ⟨p, s.settings.queue.ageTime, 0⟩
    else s.count .addrFull

/-- The zone move check of an A port (R23). -/
def State.zoneMoveCheck (s : State) (a : Station) : State :=
  if (s.findAddress a).isSome then (s.dropAddress a).count .zoneMove else s

/-- Step 2 of R17: source handling by port kind, skipped for a group source. -/
def State.handleSource (s : State) (p : PortId) (a : Station) : State :=
  if isGroup a then s
  else
    match p with
    | .up => s
    | .a _ => s.zoneMoveCheck a
    | .ctl | .t _ | .b _ => s.learn p a

/-! ### Branch messages (R18, R19) -/

/-- The kinds the Night Link Engine takes (R19). -/
def officeKinds : List Nat := [0x41, 0x43, 0x44, 0x45, 0x47, 0x4A]

/-- Whether a kind is accepted from a port's zone, with its further condition (R19). -/
def State.kindAccepted (s : State) (p : PortId) (f : List Byte) : Bool :=
  match portZone p with
  | .till => [0x01, 0x03, 0x04, 0x06].contains (frameKind f)
  | .label => [0x22, 0x23].contains (frameKind f)
  | .controller => decide (frameKind f = 0x60)
  | .uplink =>
    decide (s.settings.management.headOffice = some (frameSource f)) &&
    (officeKinds.contains (frameKind f) || (decide (frameKind f = 0x60) && s.settings.management.uplinkManagement))
  | .guest => false

/-- Whether a branch message is handed on (R18). -/
def State.messageAccepted (s : State) (p : PortId) (f : List Byte) : Bool :=
  decide (frameType f = 0x9C41) && decide (frameDestination f = s.managementAddress) && decide (frameVersion f = 1) &&
  s.kindAccepted p f

/-- A branch message handed on to its serving block, or dropped as MISPLACED (R18, R19). A request no row takes is answered
as it comes to stand first (log 3). -/
def State.branchMessage (s : State) (p : PortId) (f : List Byte) : State :=
  if s.messageAccepted p f then
    let s1 := s.setHanded (s.handed ++ [⟨p, f⟩])
    match p with
    | .up | .ctl => s1.serveUnassigned p
    | .t _ | .a _ | .b _ => s1
  else s.count .misplaced

/-! ### Classes and admission (R32) -/

/-- The output class for a source zone and the zones of the targets (R32). -/
def outputClass (src : Zone) (dsts : List Zone) : OutClass :=
  let zs := src :: dsts
  if zs.contains .guest then .guest
  else if zs.contains .till then .till
  else if zs.contains .label then .label
  else .bulk

/-- A frame with its target set handed on for admission (R32, R36). -/
def State.forward (s : State) (p : PortId) (f : List Byte) (targets : List PortId) : State × Admission :=
  s.offer (outputClass (portZone p) (targets.map portZone)) .forwarded f targets

/-- A guest frame policed for a station, admitted, and the admission reported (R174, R175). -/
def State.forwardPoliced (s : State) (p : PortId) (f : List Byte) (target : PortId) (a : Station) (d : Direction) : State :=
  match s.findGuest a with
  | none => (s.forward p f [target]).1
  | some (k, _) =>
    let r := s.police k d f.length
    if r.2 then
      let o := r.1.forward p f [target]
      if o.2.taken then o.1.debit a d f.length else o.1.returnTokens a d f.length
    else r.1

/-! ### Resolution and the guest filters (R26, R27, R30, R31) -/

/-- A resolved unicast destination (R26): a wired port, a guest's port with its session's state, or none. -/
inductive Target
  | port (p : PortId)
  | guest (n : Fin 4) (state : GuestState)
  | unknown
  deriving DecidableEq, Repr

/-- The destination of an ordinary unicast frame resolved (R26). -/
def State.resolve (s : State) (p : PortId) (dst : Station) : Target :=
  match s.findAddress dst with
  | some e => .port e.port
  | none =>
    match s.findGuest dst with
    | some (_, g) =>
      match g.port with
      | some n => .guest n g.state
      | none => .unknown
    | none => if p = .up then .unknown else .port .up

/-- Whether a session's state limits its station to the portal. -/
def portalOnly : GuestState → Bool
  | .pending _ | .expired _ => true
  | .admitted _ | .throttled _ | .barred => false

/-- The guest destination filter (R31): whether a frame from a zone to a session in a state continues. R31's table has no column
for the Guest zone: as the model's choice a guest's frame to a Pending, Expired or Barred session does not continue, and is
dropped here with ZONE-DENY, before the Local filter (log 26). -/
def State.reachesGuest (s : State) (src : Zone) : GuestState → Bool
  | .pending _ | .expired _ => decide (src = .controller) && s.management.supervision.present
  | .admitted _ | .throttled _ => true
  | .barred => false

/-- A drop at a filter or the matrix. -/
def State.denyFrame (s : State) : State := s.count .zoneDeny

/-- The checks of R27 on a resolved target: the state after a drop, or none where the frame passes. -/
def State.targetDrop (s : State) (p target : PortId) : Option State :=
  if target = p then some (s.setPort p { s.port p with localFilters := bump16 (s.port p).localFilters })
  else if s.permits (portZone p) (portZone target) = false then some s.denyFrame
  else if s.isUp target = false then some (s.count .queueDrop)
  else none

/-- An ordinary unicast frame from a source whose session, if it is a guest's, limits it as `limited` says. -/
def State.unicast (s : State) (p : PortId) (f : List Byte) (limited : Bool) : State :=
  match s.resolve p (frameDestination f) with
  | .unknown => s.count .unknownDest
  | .port q =>
    -- A Pending or Expired source reaches CTL alone, while the controller is Present (R30, log 26).
    if limited = true ∧ ¬(q = .ctl ∧ s.management.supervision.present = true) then s.denyFrame
    else
      match s.targetDrop p q with
      | some t => t
      | none =>
        if isGuestPort p then s.forwardPoliced p f q (frameSource f) .up else (s.forward p f [q]).1
  | .guest n st =>
    if limited = true ∨ s.reachesGuest (portZone p) st = false then s.denyFrame
    else
      match s.targetDrop p (.a n) with
      | some t => t
      | none => s.forwardPoliced p f (.a n) (frameDestination f) .down

/-- The target set of a group-addressed frame from a port that is not an A port (R28). -/
def State.groupTargets (s : State) (p : PortId) : List PortId :=
  allPorts.filter (fun q => decide (q ≠ p) && !isGuestPort q && s.isUp q && s.permits (portZone p) (portZone q))

/-- Whether the matrix leaves out some port other than the arrival port and the A ports (R28, log 25). -/
def State.matrixLeavesOut (s : State) (p : PortId) : Bool :=
  allPorts.any (fun q => decide (q ≠ p) && !isGuestPort q && !s.permits (portZone p) (portZone q))

/-- A group-addressed ordinary frame from a port that is not an A port (R28). -/
def State.multicast (s : State) (p : PortId) (f : List Byte) : State :=
  if (s.groupTargets p).isEmpty then if s.matrixLeavesOut p then s.denyFrame else s
  else (s.forward p f (s.groupTargets p)).1

/-- A group-addressed ordinary frame from a guest whose session is not Barred (R29). Where the matrix or the controller's
absence and a Down CTL would each drop it, ZONE-DENY alone is counted, an order the spec does not give (the model's choice,
log 43). -/
def State.guestMulticast (s : State) (p : PortId) (f : List Byte) (limited : Bool) : State :=
  if s.permits .guest .controller = false ∨ (limited = true ∧ s.management.supervision.present = false) then s.denyFrame
  else if s.isUp .ctl = false then s.count .queueDrop
  else s.forwardPoliced p f .ctl (frameSource f) .up

/-- An ordinary frame from an A port (R29, R30): a group source drops it, the Guest Unit takes the arrival, and the
session's state decides what follows. -/
def State.guestFrame (s : State) (n : Fin 4) (f : List Byte) : State :=
  if isGroup (frameSource f) then s.denyFrame
  else
    let r := s.guestArrival (frameSource f) n
    if r.2 then
      match r.1.findGuest (frameSource f) with
      | none => r.1
      | some (_, g) =>
        if g.state = .barred then r.1.denyFrame
        else if isGroup (frameDestination f) then r.1.guestMulticast (.a n) f (portalOnly g.state)
        else r.1.unicast (.a n) f (portalOnly g.state)
    else r.1

/-- An ordinary frame (R17 steps 4 to 6). -/
def State.ordinaryFrame (s : State) (p : PortId) (f : List Byte) : State :=
  match p with
  | .a n => s.guestFrame n f
  | .up | .ctl | .t _ | .b _ =>
    if isGroup (frameDestination f) then s.multicast p f else s.unicast p f false

/-- Steps 1 to 6 of R17 for an accepted frame. -/
def State.classify (s : State) (p : PortId) (f : List Byte) : State :=
  if frameSource f = s.managementAddress then s.count .misplaced
  else
    let s1 := s.handleSource p (frameSource f)
    if frameType f = 0x9C41 ∨ frameDestination f = s.managementAddress then s1.branchMessage p f else s1.ordinaryFrame p f

/-- A frame that reaches a port's receiver (R16). -/
def State.frameReceived (s : State) (p : PortId) (f : List Byte) : State :=
  let r := s.port p
  if r.linkUp = false then s
  else if s.loading then s.setPort p { r with loadingDiscards := bump16 r.loadingDiscards }
  else if f.length < 64 ∨ 1536 < f.length then s.setPort p { r with lengthErrors := bump16 r.lengthErrors }
  else if frameCheckHolds f = false then s.setPort p { r with checkErrors := bump16 r.checkErrors }
  else s.classify p f

/-- The meaning of FRAME_RECEIVED (R16). -/
def execFrameReceived (p : PortId) (f : List Byte) (s : State) : Host.Outcome State Fault Refusal := .next (s.frameReceived p f)

/-! ### Ageing and the operations -/

/-- An entry whose Age Remaining has reached 0 is removed (R24). -/
def State.ageOut (s : State) (a : Station) : State :=
  match s.findAddress a with
  | some e => if e.age = 0 then s.dropAddress a else s
  | none => s

/-- The meaning of ADDRESS_AGE_EXPIRY (R24). -/
def execAddressAgeExpiry (a : Station) (s : State) : Host.Outcome State Fault Refusal := .next (s.ageOut a)

/-- Zone Matrix Write (R21): source zone, destination zone, permit 0 or deny 1 (log 9). -/
def serveZoneMatrixWrite (_src : Source) (params : List Byte) (s : State) : Reply :=
  if params.length < 3 ∨ 1 < fieldAt params 2 1 then refuse s .range
  else
    match zoneOf? (fieldAt params 0 1), zoneOf? (fieldAt params 1 1) with
    | some a, some b =>
      if fixedCell a b then refuse s .range
      else
        let q := s.settings.queue
        (s.setSettings { s.settings with queue := { q with
          matrix := q.matrix.set (matrixIndex a b) (decide (fieldAt params 2 1 = 0)) } }, .done, [])
    | _, _ => refuse s .range

/-- The meaning of ZONE_MATRIX_WRITE (R21). -/
def execZoneMatrixWrite (src : Source) (s : State) : Host.Outcome State Fault Refusal :=
  .next (takeRequest src 80 serveZoneMatrixWrite s)

/-- Address Flush (R25): All 0, Port 1 with a port number, Station 2 with an address (log 9). -/
def serveAddressFlush (_src : Source) (params : List Byte) (s : State) : Reply :=
  if params.length < 1 then refuse s .range
  else if fieldAt params 0 1 = 0 then (s.setAddresses [], .done, [])
  else if fieldAt params 0 1 = 1 then
    if params.length < 2 then refuse s .range
    else
      match portOf? (fieldAt params 1 1) with
      | some p => (s.flushPort p, .done, [])
      | none => refuse s .range
  else if fieldAt params 0 1 = 2 then
    if params.length < 7 then refuse s .range
    else if (s.findAddress (stationAt params 1)).isSome then (s.dropAddress (stationAt params 1), .done, [])
    else refuse s .unknown
  else refuse s .range

/-- The meaning of ADDRESS_FLUSH (R25). -/
def execAddressFlush (src : Source) (s : State) : Host.Outcome State Fault Refusal :=
  .next (takeRequest src 81 serveAddressFlush s)

end Sys2Proof.Machine
end

