-- ==== Sys2Proof/Machine/Output.lean ====
section
/-! DEFINITION. The Output Scheduler (3.6, 3.7): the choice of the next frame, deficit round robin, the uplink shaper, the
start and the end of a transmission. -/

namespace Sys2Proof.Machine

/-- Whether the Night weight set is in force: a Night session is in an active state (R44). -/
def State.nightWeights (s : State) : Bool := s.session.state.active && decide (s.session.type = some .night)

/-- The weight of Bulk or Guest from the set in force (R44, R45). -/
def State.weight (s : State) (guest : Bool) : Nat :=
  match s.nightWeights, guest with
  | true, true => s.settings.queue.nightGuest
  | true, false => s.settings.queue.nightBulk
  | false, true => s.settings.queue.dayGuest
  | false, false => s.settings.queue.dayBulk

/-- A class's quantum (R43). -/
def State.quantum (s : State) (guest : Bool) : Nat := 1536 * s.weight guest

/-- The length of a stored frame. -/
def State.frameLength (s : State) (ref : Nat) : Nat :=
  match s.pool.frames.get? ref with
  | some f => f.bytes.length
  | none => 0

/-- The Deficit of the class whose Turn it is. -/
def Drr.deficit (d : Drr) : Nat := if d.turnGuest then d.guestDeficit else d.bulkDeficit

/-- The Deficit of the class whose Turn it is, changed. -/
def Drr.setDeficit (d : Drr) (v : Nat) : Drr := if d.turnGuest then { d with guestDeficit := v } else { d with bulkDeficit := v }

/-- The Turn passed to the other class, Granted no. -/
def Drr.passTurn (d : Drr) : Drr := { d with turnGuest := !d.turnGuest, granted := false }

/-- The weighted class of a turn. -/
def turnClass (guest : Bool) : OutClass := if guest then .guest else .bulk

/-- The steps of R43 until a frame is chosen: the record as they leave it and the class chosen. A quantum is at least a whole
frame, so at most four turns are taken. -/
def chooseWeighted (s : State) (p : PortId) : Nat → Drr → Drr × Option OutClass
  | 0, d => (d, none)
  | n + 1, d =>
    match s.queue p (turnClass d.turnGuest) with
    | [] => chooseWeighted s p n (d.setDeficit 0).passTurn
    | ref :: _ =>
      let d1 := if d.granted then d else { d.setDeficit (d.deficit + s.quantum d.turnGuest) with granted := true }
      if s.frameLength ref ≤ d1.deficit then (d1, some (turnClass d1.turnGuest)) else chooseWeighted s p n d1.passTurn

/-- The choice of a free transmitter (R42): the round robin record and the class chosen. -/
def State.chooseFrame (s : State) (p : PortId) : Drr × Option OutClass :=
  let r := s.port p
  if r.queues.control ≠ [] then (r.drr, some .control)
  else if r.queues.till ≠ [] then (r.drr, some .till)
  else if r.queues.label ≠ [] then (r.drr, some .label)
  else if r.queues.bulk = [] ∧ r.queues.guest = [] then (r.drr, none)
  else chooseWeighted s p 4 r.drr

/-- Whether UP's shaper lets a frame of `n` bytes begin; other ports have none (R46, R47). -/
def State.shaperAllows (s : State) (p : PortId) (n : Nat) : Bool :=
  decide (p ≠ .up) || decide (s.settings.queue.shaperRate = 0) || decide (1000 * n ≤ s.pool.bucket)

/-- The bucket after a frame of `n` bytes is begun: it falls on a shaped UP alone (R46, R47). -/
def State.spendBucket (s : State) (p : PortId) (n : Nat) : State :=
  if p = .up ∧ s.settings.queue.shaperRate ≠ 0 then s.setPool { s.pool with bucket := s.pool.bucket - 1000 * n } else s

/-- The head of a class's queue begun: it leaves its queue, a weighted class's Deficit falls by its length, and an entry that
leaves UP's Bulk queue gives a release notice (R39, R40, R43). -/
def State.beginFrame (s : State) (p : PortId) (c : OutClass) (ref : Nat) : State :=
  let n := s.frameLength ref
  let r := s.port p
  let d := if c = .bulk ∨ c = .guest then r.drr.setDeficit (r.drr.deficit - n) else r.drr
  let s1 := (s.setPort p { r with
    queues := r.queues.set c ((r.queues.get c).drop 1), sending := some ref, drr := d }).spendBucket p n
  if p = .up ∧ c = .bulk then s1.noticeRelease else s1

/-- A free transmitter on an Up port chooses a frame and begins it when the shaper allows (R42, R47). -/
def State.transmitStart (s : State) (p : PortId) : State :=
  if s.isUp p = true ∧ (s.port p).sending = none then
    let r := s.chooseFrame p
    let s1 := s.setPort p { s.port p with drr := r.1 }
    match r.2 with
    | none => s1
    | some c =>
      match s1.queue p c with
      | [] => s1
      | ref :: _ => if s1.shaperAllows p (s1.frameLength ref) then s1.beginFrame p c ref else s1
  else s

/-- The meaning of TRANSMIT_START (R42). -/
def execTransmitStart (p : PortId) (s : State) : Host.Outcome State Fault Refusal := .next (s.transmitStart p)

/-- A transmission completes: the copy ends and the transmitter is free (R40, R42). -/
def State.transmitComplete (s : State) (p : PortId) : State :=
  match (s.port p).sending with
  | some ref => (s.setPort p { s.port p with sending := none }).endCopy ref
  | none => s

/-- The meaning of TRANSMIT_COMPLETE (R40). -/
def execTransmitComplete (p : PortId) (s : State) : Host.Outcome State Fault Refusal := .next (s.transmitComplete p)

end Sys2Proof.Machine
end

