-- ==== Sys2Proof/Machine/SettingsWrite.lean ====
section
/-! DEFINITION. The ranges of the running settings and Queue Settings Write (R35, R186, 11.3). -/

namespace Sys2Proof.Machine

/-! ### Ranges -/

/-- Whether a value lies between two bounds. -/
def between (lo hi n : Nat) : Bool := decide (lo ≤ n) && decide (n ≤ hi)

/-- Shaper rates (R46). -/
def shaperRateOk (n : Nat) : Bool := decide (n = 0) || between 8000 125000000 n

/-- Pacer periods (R112). -/
def periodOk (n : Nat) : Bool := decide (n = 0) || between 16 16383 n

/-- Weights (R45). -/
def weightOk (n : Nat) : Bool := between 1 15 n

/-- The queue limits of one port (R41). -/
def limitsOk (p : PerClass Nat) : Bool :=
  between 1 1024 p.control && between 1 1024 p.till && between 1 1024 p.label && between 1 1024 p.bulk && between 1 1024 p.guest

/-- The five zones. -/
def allZones : List Zone := [.uplink, .controller, .till, .guest, .label]

/-- The fixed cells of a matrix hold deny (R20). -/
def matrixOk (m : Vector Bool 25) : Bool :=
  allZones.all (fun a => allZones.all (fun b => !fixedCell a b || !m[matrixIndex a b]))

/-- The settings of chapter 2 and 3 lie in their ranges (R20, R24, R34, R41, R45, R46). -/
def QueueSettings.inRange (q : QueueSettings) : Bool :=
  matrixOk q.matrix && q.limits.toList.all limitsOk && decide (q.tillReserve ≤ 2048) && decide (q.controlReserve ≤ 512) &&
  decide (q.guestCap ≤ 8192) && weightOk q.dayBulk && weightOk q.dayGuest && weightOk q.nightBulk && weightOk q.nightGuest &&
  shaperRateOk q.shaperRate && between 10 3600 q.ageTime

/-- The settings of R112 lie in their ranges. -/
def LabelSettings.inRange (l : LabelSettings) : Bool :=
  periodOk l.period && decide (l.max ≤ 65535) && between 1 16 l.slotBudget && between 1 65535 l.faultThreshold

/-- The settings of R181 lie in their ranges. -/
def GuestSettings.inRange (g : GuestSettings) : Bool :=
  durationOk g.duration && decide (g.upBudget ≤ 4294967295) && decide (g.downBudget ≤ 4294967295) && guestRateOk g.rate &&
  between 1000 12500000 g.floor && between 30 3600 g.hold

/-- Whether a station is a unicast address (R202). -/
def unicastOption (a : Option Station) : Bool := a.all (fun x => !isGroup x)

/-- The settings of R186 lie in their ranges. -/
def ManagementSettings.inRange (m : ManagementSettings) : Bool :=
  decide (m.branch ≤ 65535) && unicastOption m.headOffice && decide (m.heartbeat ≤ 255) && unicastOption m.override &&
  (m.override.isNone || decide (m.override ≠ m.headOffice))

/-- Every setting lies in its range (R197). -/
def Settings.inRange (x : Settings) : Bool :=
  x.queue.inRange && x.labels.inRange && x.guest.inRange && x.management.inRange && between 1 16384 x.highMark &&
  between 1 255 x.loadTimer && between 1 4 x.windowLimit && between 1 60 x.blockTimer

/-- The present daily times of an image. -/
def DailyTimes.present (t : DailyTimes) : List Nat :=
  t.storeOpen.toList ++ t.storeClose.toList ++ t.nightStart.toList ++ t.nightEnd.toList

/-- The daily times lie in a day and no two are equal (R8, R197). -/
def DailyTimes.inRange (t : DailyTimes) : Bool := t.present.all (fun x => decide (x < dayMs)) && decide t.present.Nodup

/-! ### Entries (11.3) -/

/-- One entry of a Queue Settings Write. -/
structure Entry where
  code : Nat
  sel1 : Nat
  sel2 : Nat
  presence : Nat
  value : Nat
  deriving DecidableEq, Repr

/-- The entry of 12 bytes. -/
def entryOf (e : List Byte) : Entry := ⟨fieldAt e 0 1, fieldAt e 1 1, fieldAt e 2 1, fieldAt e 3 1, fieldAt e 4 8⟩

/-- A number setting: no selectors, presence 1, the value as the range says. -/
def numberEntry (e : Entry) (ok : Nat → Bool) (put : Nat → Settings) : Option Settings :=
  if e.sel1 = 0 ∧ e.sel2 = 0 ∧ e.presence = 1 ∧ ok e.value = true then some (put e.value) else none

/-- A setting that is 0 or 1. -/
def switchEntry (e : Entry) (put : Bool → Settings) : Option Settings :=
  numberEntry e (fun n => decide (n ≤ 1)) (fun n => put (decide (n = 1)))

/-- An optional station address: presence 0 clears it; a group address lies outside its range (R186, R199). Value bytes 0 and 1
beside the address are taken as part of the value, so that a nonzero one lies outside its range: 11.3 does not say that they are
pad (the model's choice, log 59). -/
def stationEntry (e : Entry) (put : Option Station → Settings) : Option Settings :=
  if e.sel1 = 0 ∧ e.sel2 = 0 then
    if e.presence = 0 then some (put none)
    else if e.presence = 1 ∧ e.value < 281474976710656 ∧ isGroup (BitVec.ofNat 48 e.value) = false then
      some (put (some (BitVec.ofNat 48 e.value)))
    else none
  else none

/-- The classes a class selector names: one, or all at 255. -/
def classesOf? (n : Nat) : Option (List OutClass) :=
  if n = 255 then some [.control, .till, .label, .bulk, .guest] else (classOf? n).map (fun c => [c])

/-- The ports a port selector names: one, or all at 255. -/
def portsOf? (n : Nat) : Option (List PortId) := if n = 255 then some allPorts else (portOf? n).map (fun p => [p])

/-- A queue limit set for ports and classes (R41). -/
def putLimits (q : QueueSettings) (ps : List PortId) (cs : List OutClass) (v : Nat) : QueueSettings :=
  { q with limits := ps.foldl (fun l p => l.set (portIndex p) (cs.foldl (fun r c => r.set c v) l[portIndex p])) q.limits }

/-- A queue limit entry. -/
def limitEntry (e : Entry) (x : Settings) : Option Settings :=
  match portsOf? e.sel1, classesOf? e.sel2 with
  | some ps, some cs =>
    if e.presence = 1 ∧ between 1 1024 e.value = true then some { x with queue := putLimits x.queue ps cs e.value } else none
  | _, _ => none

/-- A notify enable entry. -/
def notifyEntry (e : Entry) (x : Settings) : Option Settings :=
  match kindOf? e.sel1 with
  | some k =>
    if e.sel2 = 0 ∧ e.presence = 1 ∧ e.value ≤ 1 then
      some { x with management := { x.management with notify := x.management.notify.set (kindIndex k) (decide (e.value = 1)) } }
    else none
  | none => none

/-- A status line entry: the condition set in value byte 6, the mode in value byte 7 (11.3, log 22). Value bytes 0 to 5 are taken
as part of the value, so that a nonzero one lies outside its range: 11.3 does not say that they are pad (the model's choice,
log 59). -/
def statusLineEntry (e : Entry) (x : Settings) : Option Settings :=
  match conditionsOf? (e.value / 256) with
  | some c =>
    if e.sel2 = 0 ∧ e.presence = 1 ∧ e.value % 256 ≤ 1 then
      let line : StatusLine := ⟨c, decide (e.value % 256 = 1)⟩
      if e.sel1 = 0 then some { x with management := { x.management with statusA := line } }
      else if e.sel1 = 1 then some { x with management := { x.management with statusB := line } }
      else none
    else none
  | none => none

/-- The settings after one entry; none where R35's first check refuses it. -/
def applyEntry (e : Entry) (x : Settings) : Option Settings :=
  let q := x.queue
  let l := x.labels
  let g := x.guest
  let m := x.management
  match e.code with
  | 1 => numberEntry e (between 0 2048) (fun n => { x with queue := { q with tillReserve := n } })
  | 2 => numberEntry e (between 0 512) (fun n => { x with queue := { q with controlReserve := n } })
  | 3 => numberEntry e (between 0 8192) (fun n => { x with queue := { q with guestCap := n } })
  | 4 => limitEntry e x
  | 5 => numberEntry e weightOk (fun n => { x with queue := { q with dayBulk := n } })
  | 6 => numberEntry e weightOk (fun n => { x with queue := { q with dayGuest := n } })
  | 7 => numberEntry e weightOk (fun n => { x with queue := { q with nightBulk := n } })
  | 8 => numberEntry e weightOk (fun n => { x with queue := { q with nightGuest := n } })
  | 9 => numberEntry e shaperRateOk (fun n => { x with queue := { q with shaperRate := n } })
  | 10 => numberEntry e (between 10 3600) (fun n => { x with queue := { q with ageTime := n } })
  | 11 => numberEntry e (between 1 255) (fun n => { x with loadTimer := n })
  | 12 => numberEntry e (between 1 16384) (fun n => { x with highMark := n })
  | 13 => switchEntry e (fun b => { x with labels := { l with external := b } })
  | 14 => numberEntry e periodOk (fun n => { x with labels := { l with period := n } })
  | 15 => numberEntry e (between 0 65535) (fun n => { x with labels := { l with max := n } })
  | 16 => numberEntry e (between 1 16) (fun n => { x with labels := { l with slotBudget := n } })
  | 17 => numberEntry e (between 1 65535) (fun n => { x with labels := { l with faultThreshold := n } })
  | 18 => numberEntry e (between 1 4) (fun n => { x with windowLimit := n })
  | 19 => numberEntry e (between 1 60) (fun n => { x with blockTimer := n })
  | 20 => numberEntry e durationOk (fun n => { x with guest := { g with duration := n } })
  | 21 => numberEntry e (between 0 4294967295) (fun n => { x with guest := { g with upBudget := n } })
  | 22 => numberEntry e (between 0 4294967295) (fun n => { x with guest := { g with downBudget := n } })
  | 23 => numberEntry e guestRateOk (fun n => { x with guest := { g with rate := n } })
  | 24 => numberEntry e (between 1000 12500000) (fun n => { x with guest := { g with floor := n } })
  | 25 => numberEntry e (between 30 3600) (fun n => { x with guest := { g with hold := n } })
  | 26 => numberEntry e (between 0 65535) (fun n => { x with management := { m with branch := n } })
  | 27 => stationEntry e (fun a => { x with management := { m with headOffice := a } })
  | 28 => switchEntry e (fun b => { x with management := { m with uplinkManagement := b } })
  | 29 => switchEntry e (fun b => { x with management := { m with takeOfficeTime := b } })
  | 30 => switchEntry e (fun b => { x with management := { m with trickle := b } })
  | 31 => switchEntry e (fun b => { x with management := { m with writeBar := b } })
  | 32 => numberEntry e (between 0 255) (fun n => { x with management := { m with heartbeat := n } })
  | 33 => stationEntry e (fun a => { x with management := { m with override := a } })
  | 34 => notifyEntry e x
  | 35 => statusLineEntry e x
  | _ => none

/-- The settings after entries in order: the later value of one setting stands (11.3). -/
def applyEntries : List Entry → Settings → Option Settings
  | [], x => some x
  | e :: es, x => (applyEntry e x).bind (applyEntries es)

/-- Whether a request carries a setting of one of these codes. -/
def carries (es : List Entry) (codes : List Nat) : Bool := es.any (fun e => codes.contains e.code)

/-! ### The checks of R35 -/

/-- Check 1's two judgments of one address against another (R186, R199). Where a request names one of the two addresses twice, the
later value stands (11.3) and it alone is judged; whether the earlier one is judged too, the spec does not say (the model's choice,
log 69). -/
def State.addressesClash (s : State) (es : List Entry) (x : Settings) : Bool :=
  (carries es [27] && match x.management.headOffice with
    | some h => decide (h = s.managementAddress) || decide (h = (s.setSettings x).managementAddress)
    | none => false) ||
  (carries es [33] && x.management.override.isSome && decide (x.management.override = x.management.headOffice))

/-- Check 4: an override held in the Address Table or the Guest Session Table (R199). A removal is not refused though a table holds
the strap address that comes into force, and the entry stays: 2.5 bars that address as a key and R199 checks a written override
alone (the model's choice, log 68). -/
def State.overrideHeld (s : State) (es : List Entry) (x : Settings) : Bool :=
  carries es [33] && match x.management.override with
    | some a => (s.findAddress a).isSome || (s.findGuest a).isSome
    | none => false

/-- The checks of R35 in their order: the new settings, or the status of the first that fails. -/
def State.judgeSettings (s : State) (es : List Entry) : Except Status Settings :=
  match applyEntries es s.settings with
  | none => .error .range
  | some x =>
    if s.addressesClash es x then .error .range
    else if x.queue.guestCap < s.pool.inUse.guest then .error .busy
    else if s.freeCells < shortfallSum x.queue s.pool.inUse then .error .busy
    else if s.overrideHeld es x then .error .state
    else .ok x

/-! ### What a taken write does -/

/-- Age Remaining above the age time lowered to it (R24, log 34). -/
def State.lowerAges (s : State) : State :=
  s.setAddresses (s.addresses.mapRecords (fun e =>
    if s.settings.queue.ageTime < e.age then { e with age := s.settings.queue.ageTime, phase := 0 } else e))

/-- An unshaped uplink holds its bucket full (R46, R48). A frame waiting for the shaper is begun by the TRANSMIT_START that
follows; whether it is begun before or after the response of a head-office write joins UP's Control queue, and so whether the
response may be chosen in its place, R48 does not say (the model's choice, log 62). -/
def State.fillUnshaped (s : State) : State :=
  if s.settings.queue.shaperRate = 0 then s.setPool { s.pool with bucket := 3072000 } else s

/-- The pacer and the links after a write of the source or P (R105, R109, R110, R112, R113, log 21): `ran` and `changed` tell
whether the internal pacer ran before and whether either value changed. B0 comes out of Off, or goes Off, whole before B1: the
spec gives the two no order (the model's choice, log 45). -/
def State.settlePacer (s : State) (ran changed : Bool) : State :=
  let s1 := if changed then s.setPacer { s.pacer with oncePending := false } else s
  let s2 := if s1.pacerRuns && !ran then s1.setPacer { s1.pacer with timeLeft := 1 } else s1
  if s2.superframesCanStart then (s2.bringUp .b0).bringUp .b1 else (s2.goOff .b0).goOff .b1

/-- The Supervision Timer after a write of the heartbeat period (R188). -/
def State.settleHeartbeat (s : State) : State :=
  let p := s.settings.management.heartbeat
  if p = 0 then s.onManagement (fun m => { m with supervision := { m.supervision with present := true, timer := none } })
  else s.onManagement (fun m => { m with supervision := { m.supervision with timer := some (1000 * p) } })

/-- The kinds whose notify enable a request writes. -/
def writtenKinds (es : List Entry) : List EventKind := es.filterMap (fun e => if e.code = 34 then kindOf? e.sel1 else none)

/-- A kind whose notify enable has been written disabled owes no notice (R190). -/
def State.clearIfDisabled (s : State) (k : EventKind) : State := if s.notifies k then s else s.setOwed k false

/-- The Notice Owed marks of the kinds that a request writes disabled cleared (R190). A kind written more than once is judged by the
value in force after the write, the later one (11.3, log 61). -/
def State.clearDisabled (s : State) (es : List Entry) : State := (writtenKinds es).foldl State.clearIfDisabled s

/-- The owed notices offered where R190's conditions hold and did not hold before (log 13). -/
def State.offerOwedIfOpened (s : State) (before : Bool) : State := if before then s else s.offerOwed

/-- A Queue Settings Write taken whole (R35). The links follow the source and P, and then the fault threshold: a write that stops the
pacer and lowers the threshold to a link's check-error count takes the link Off and counts no LINK-FAULT, for R112 does not say
which acts first (the model's choice, log 57). Each time B0 goes whole before B1, so that B0's LINK-FAULT can precede B1's
LABEL-STALE: the spec gives the two no order (R107; the model's choice, log 45). Notify marks and the Supervision Timer follow
(log 57), and the owed notices come last (log 13). A frame waiting for a shaper that the write takes away is not begun here, but
by the TRANSMIT_START that follows, when the write's response has joined its queue (R48; the model's choice, log 62). -/
def State.takeSettings (s : State) (es : List Entry) (x : Settings) : State :=
  let s1 := ((s.setSettings x).lowerAges).fillUnshaped
  let changed := decide (s.settings.labels.external ≠ x.labels.external) || decide (s.settings.labels.period ≠ x.labels.period)
  let s2 := if carries es [13, 14] then s1.settlePacer s.pacerRuns changed else s1
  let s3 := if carries es [17] then (s2.checkFault .b0).checkFault .b1 else s2
  let s4 := s3.clearDisabled es
  let s5 := if carries es [32] then s4.settleHeartbeat else s4
  s5.offerOwedIfOpened s.noticesOpen

/-- Queue Settings Write (R35, R186, 11.3): a count of 1-64, a pad, then the entries. -/
def serveQueueSettingsWrite (_src : Source) (params : List Byte) (s : State) : Reply :=
  let n := fieldAt params 0 1
  if n = 0 ∨ 64 < n ∨ params.length < 2 + 12 * n then refuse s .range
  else
    let es := (piecesAt params 2 12 n).map entryOf
    match s.judgeSettings es with
    | .ok x => (s.takeSettings es x, .done, [])
    | .error st => refuse s st

/-- The meaning of QUEUE_SETTINGS_WRITE (R35, R186). -/
def execQueueSettingsWrite (src : Source) (s : State) : Host.Outcome State Fault Refusal :=
  .next (takeRequest src 82 serveQueueSettingsWrite s)

end Sys2Proof.Machine
end

