-- ==== Sys2Proof/Machine/Management.lean ====
section
/-! DEFINITION. The Management Unit's own operations (chapter 10): Read Status, Read Counters, the counters, supervision,
owed notices, Save Configuration and Restart. -/

namespace Sys2Proof.Machine

/-! ### Read Status (R192) -/

/-- The code of an image state, in the order R197 lists them. -/
def imageStateCode : ImageState → Nat
  | .loading => 0
  | .good => 1
  | .bad => 2
  | .saving => 3

/-- A daily slot in the Part area: its time and Fired Day. -/
def dailySlotBytes (d : DailySlot) : List Byte := beOption 4 d.time ++ beOption 2 d.firedDay

/-- Area Part (R192). The CUTOVER inhibit, the Remote Write Bar and the levels of the status lines are written as Yes/no bytes,
set or asserted 1, which 11.2 leaves open beside its row of enumerated values (the model's choice, log 9). A stopped Supervision
Timer has no time left: its field is written as an optional one, absent while the timer is stopped (the model's choice, log 9). -/
def State.partArea (s : State) : List Byte :=
  beMoment s.clock.now ++ beBool s.clock.valid ++ be 1 (storeModeCode s.mode) ++
  dailyNames.flatMap (fun n => dailySlotBytes (s.schedule.daily n)) ++ beMomentOption s.schedule.cutover ++
  beBool s.schedule.inhibit ++ be 1 (if s.management.supervision.present then 0 else 1) ++
  beOption 4 s.management.supervision.timer ++ beStationOption s.management.supervision.station ++
  be 1 (causeByte s.management.causes) ++ be 1 (imageStateCode s.management.image) ++
  beBool s.settings.management.writeBar ++ be 1 s.management.strap.toNat ++
  beStationOption s.settings.management.override ++ beStation s.managementAddress ++ beBool s.statusA ++ beBool s.statusB ++
  beBool s.management.restart.isSome

/-- One Till Table record in the order of R56: number, State (Absent 0, Signed-On 1), Port, the Last fields. -/
def tillBytes (number : Nat) (t : Till) : List Byte :=
  be 2 number ++ be 1 (if t.port.isSome then 1 else 0) ++ beOption 1 (t.port.map Fin.val) ++ beOption 4 t.lastTransaction ++
  beOption 4 t.lastSequence

/-- Area Tills (R192): the number of records, then each of them. They stand in ascending till number order, for which the spec gives
no order (the model's choice, log 9). -/
def State.tillsArea (s : State) : List Byte := be 1 s.tills.length ++ s.tills.flatMap (fun kv => tillBytes kv.1 kv.2)

/-- The code of a source: controller 0, head office 1 (4.5). -/
def sourceCode : Source → Nat
  | .controller => 0
  | .headOffice => 1

/-- The Load Transaction record in the order of 4.5. -/
def loadBytes (l : LoadTransaction) : List Byte :=
  be 1 (if l.owner.isSome then 1 else 0) ++ beOption 1 (l.owner.map sourceCode) ++
  beOption 4 (l.owner.map (fun _ => l.timer)) ++ be 2 l.parts ++ be 4 l.applied ++ be 4 l.refused

/-- Area Items (R192). The lowest free item index is written as an optional field, absent where all 32,768 are in use, of which the
spec does not speak (the model's choice, log 9). -/
def State.itemsArea (s : State) : List Byte :=
  be 2 (s.items.countBy (fun it => it.active.isSome)) ++ be 2 (s.items.countBy (fun it => it.active.isNone)) ++
  beOption 2 (if s.items.length < 32768 then some s.items.lowestFree else none) ++ loadBytes s.load

/-- Area Journal (R72, R192). Next Sequence is written as an optional field, absent where it is Exhausted, for which the spec
gives no encoding (the model's choice, log 9). Last Recovery Loss and the Overflow Mark stand here, as R192 lists them, though R74
says Read Counters (the model's reading, log 70). -/
def State.journalArea (s : State) : List Byte :=
  be 2 s.journal.head ++ be 2 s.journal.slots.length ++ beOption 4 s.journal.nextSequence ++ beOption 4 s.journal.oldest ++
  beOption 4 s.journal.newest ++ beBool s.journal.scan.isSome ++ be 2 s.settings.highMark ++ be 2 s.journal.lastLoss ++
  beOption 4 s.journal.overflowMark

/-- The code of a link state, in the order of R103's table. -/
def linkStateCode : LinkState → Nat
  | .off => 0
  | .silent => 1
  | .ready => 2
  | .faulted => 3

/-- A link record and its Work Queue length. -/
def linkBytes (r : LinkRecord) : List Byte :=
  be 1 (linkStateCode r.state) ++ be 2 r.checkErrors ++ be 1 r.missed ++ be 2 r.queue.length

/-- The number of labels in a state, by its code. -/
def State.labelsIn (s : State) (code : Nat) : Nat := s.labels.countBy (fun l => decide (labelStateCode l.state = code))

/-- Area Labels; the period P and the Slot Budget take a duration's and a budget's 4 bytes (R202). -/
def State.labelsArea (s : State) : List Byte :=
  linkBytes s.links.b0 ++ linkBytes s.links.b1 ++ be 2 s.links.b0.scanPosition ++ be 2 s.links.b1.scanPosition ++
  beBool s.settings.labels.external ++ be 4 s.settings.labels.period ++ be 2 s.settings.labels.max ++
  be 4 s.settings.labels.slotBudget ++ be 2 s.settings.labels.faultThreshold ++ be 4 s.pacer.count ++ be 2 s.pacer.number ++
  [0, 1, 2, 3, 4, 5].flatMap (fun c => be 2 (s.labelsIn c))

/-- The number of guest entries in a state, by its code. -/
def State.guestsIn (s : State) (code : Nat) : Nat :=
  s.guests.table.countBy (fun g => decide (guestStateCode g.state = code))

/-- Area Guests (R192). The Closing Sweep's slot, reported while it runs, is written as an optional field (the model's choice,
log 9). -/
def State.guestsArea (s : State) : List Byte :=
  [0, 1, 2, 3, 4].flatMap (fun c => be 2 (s.guestsIn c)) ++ be 2 s.guests.closingNumber ++ beOption 2 s.guests.sweep

/-- An area of Read Status, in the order of R192's table. -/
def State.statusArea (s : State) : Nat → Option (List Byte)
  | 0 => some s.partArea
  | 1 => some s.tillsArea
  | 2 => some s.itemsArea
  | 3 => some s.journalArea
  | 4 => some s.labelsArea
  | 5 => some s.batchReport
  | 6 => some s.sessionReport
  | 7 => some s.guestsArea
  | _ => none

/-- A read of an area: Range where there is no such area. -/
def readArea (area : State → Nat → Option (List Byte)) (params : List Byte) (s : State) : Reply :=
  if params.length < 1 then refuse s .range
  else
    match area s (fieldAt params 0 1) with
    | some bytes => (s, .done, bytes)
    | none => refuse s .range

/-- Read Status (R192). -/
def serveReadStatus (_src : Source) (params : List Byte) (s : State) : Reply := readArea State.statusArea params s

/-- The meaning of READ_STATUS (R192). -/
def execReadStatus (src : Source) (s : State) : Host.Outcome State Fault Refusal := .next (takeRequest src 1 serveReadStatus s)

/-! ### Read Counters (R193) -/

/-- Area Events (R193): counter, notify enable and Notice Owed kind by kind, in kind number order. The spec does not say whether all
33 counters stand before the enables and the marks, nor the code of an enable: Yes/no, enabled 1 (the model's choices, log 9). -/
def State.eventsArea (s : State) : List Byte :=
  allKinds.flatMap (fun k => be 2 (s.counter k) ++ beBool (s.notifies k) ++ beBool (s.isOwed k))

/-- A port's counts in the order of R14. -/
def portBytes (r : PortState) : List Byte :=
  be 2 r.lengthErrors ++ be 2 r.checkErrors ++ be 2 r.loadingDiscards ++ be 2 r.localFilters

/-- Area Ports. -/
def State.portsArea (s : State) : List Byte := allPorts.flatMap (fun p => portBytes (s.port p))

/-- Area Blocks (R193). Of the journal's statistics it carries Message Errors alone, as R193 lists it, though R74 says that all of
them are read with Read Counters (the model's reading, log 70). -/
def State.blocksArea (s : State) : List Byte :=
  be 2 s.priceErrors ++ be 2 s.journal.messageErrors ++ be 2 s.links.b0.checkErrors ++ be 2 s.links.b1.checkErrors ++
  be 2 s.session.messageErrors ++ be 2 s.session.outOfPlace ++ be 2 s.guests.upDrops ++ be 2 s.guests.downDrops ++
  be 2 s.guests.reclaims ++ be 2 s.management.messageErrors

/-- An area of Read Counters, in the order of R193's table. -/
def State.counterArea (s : State) : Nat → Option (List Byte)
  | 0 => some s.eventsArea
  | 1 => some s.portsArea
  | 2 => some s.blocksArea
  | _ => none

/-- Read Counters (R193). -/
def serveReadCounters (_src : Source) (params : List Byte) (s : State) : Reply := readArea State.counterArea params s

/-- The meaning of READ_COUNTERS (R193). -/
def execReadCounters (src : Source) (s : State) : Host.Outcome State Fault Refusal := .next (takeRequest src 2 serveReadCounters s)

/-! ### Clearing (R191, R194) -/

/-- A counter lowered by a quoted count; at 0 its Notice Owed is cleared (R191). -/
def State.lowerCounter (s : State) (k : EventKind) (quoted : Nat) : State :=
  let s1 := s.setEvents { s.events with counters := s.events.counters.set (kindIndex k) (s.counter k - quoted) }
  if s.counter k ≤ quoted then s1.setOwed k false else s1

/-- Clear Events (R191): kind number, quoted count. -/
def serveClearEvents (_src : Source) (params : List Byte) (s : State) : Reply :=
  if params.length < 3 then refuse s .range
  else
    match kindOf? (fieldAt params 0 1) with
    | some k => (s.lowerCounter k (fieldAt params 1 2), .done, be 2 (s.counter k - fieldAt params 1 2))
    | none => refuse s .range

/-- The meaning of CLEAR_EVENTS (R191). -/
def execClearEvents (src : Source) (s : State) : Host.Outcome State Fault Refusal := .next (takeRequest src 3 serveClearEvents s)

/-- Clear Reset Causes (R194). -/
def serveClearResetCauses (_src : Source) (_params : List Byte) (s : State) : Reply :=
  (s.onManagement (fun m => { m with causes := ⟨false, false, false, false⟩ }), .done, [])

/-- The meaning of CLEAR_RESET_CAUSES (R194). -/
def execClearResetCauses (src : Source) (s : State) : Host.Outcome State Fault Refusal :=
  .next (takeRequest src 4 serveClearResetCauses s)

/-! ### Supervision and owed notices (R187, R188, R190) -/

/-- The controller made Present, the Supervision Timer restarted where the heartbeat period is nonzero (R187). -/
def State.heartbeat (s : State) : State :=
  let p := s.settings.management.heartbeat
  s.onManagement (fun m => { m with supervision := { m.supervision with
    present := true, timer := if p = 0 then m.supervision.timer else some (1000 * p) } })

/-- Heartbeat (R187): its owed notices follow in the same step, before the response (log 13). -/
def serveHeartbeat (_src : Source) (_params : List Byte) (s : State) : Reply :=
  ((s.heartbeat).offerOwedIfOpened s.noticesOpen, .done, be 4 s.settings.management.heartbeat)

/-- The meaning of HEARTBEAT (R187). -/
def execHeartbeat (src : Source) (s : State) : Host.Outcome State Fault Refusal := .next (takeRequest src 112 serveHeartbeat s)

/-- The Supervision Timer's expiry (R188). -/
def State.supervisionExpiry (s : State) : State :=
  if s.management.supervision.timer = some 0 then
    (s.onManagement (fun m => { m with supervision := { m.supervision with present := false, timer := none } })).count .controllerLost
  else s

/-- The meaning of SUPERVISION_TIMER_EXPIRY (R188). -/
def execSupervisionTimerExpiry (s : State) : Host.Outcome State Fault Refusal := .next s.supervisionExpiry

/-- The meaning of OWED_NOTICES (R190): the notices owed, where the three conditions hold. -/
def execOwedNotices (s : State) : Host.Outcome State Fault Refusal := .next s.offerOwed

/-! ### Save Configuration (R198) -/

/-- The running settings of R197 as they stand. -/
def State.capture (s : State) : ImageContents := ⟨s.settings, s.schedule.times⟩

/-- A save taken: the settings are captured, the image becomes Saving, and the stored image is marked invalid (R198). -/
def State.startSave (s : State) : State :=
  s.onManagement (fun m => { m with
    image := .saving, saving := some s.capture, flash := { m.flash with formatMark := false, checkHolds := false } })

/-- Save Configuration (R198). No request is taken while the image is Loading (R16, R19). -/
def serveSaveConfiguration (_src : Source) (_params : List Byte) (s : State) : Reply :=
  match s.management.image with
  | .good | .bad => (s.startSave, .done, [])
  | .saving => refuse s .busy
  | .loading => refuse s .state

/-- The meaning of SAVE_CONFIGURATION (R198). -/
def execSaveConfiguration (src : Source) (s : State) : Host.Outcome State Fault Refusal :=
  .next (takeRequest src 113 serveSaveConfiguration s)

/-- The end of the writing (R198). -/
def State.saveEnd (s : State) (written : Bool) : State :=
  match s.management.saving with
  | some c =>
    if written then
      s.onManagement (fun m => { m with image := .good, saving := none, flash := ⟨true, true, c⟩ })
    else (s.onManagement (fun m => { m with image := .bad, saving := none })).count .configBad
  | none => s

/-- The meaning of SAVE_END (R198). -/
def execSaveEnd (written : Bool) (s : State) : Host.Outcome State Fault Refusal := .next (s.saveEnd written)

/-! ### Restart (R195) -/

/-- The kind a Restart names: Soft 0, Full 1 (R195). -/
def restartKind? (n : Nat) : Option RestartKind := [RestartKind.soft, .full][n]?

/-- Restart (R195): its mark is set, its response not yet offered. A kind outside R195's, or a body too short for one, is refused
with Range before a pending Restart refuses with Busy: R195 gives the two no order (the model's choice, log 56). -/
def serveRestart (_src : Source) (params : List Byte) (s : State) : Reply :=
  if params.length < 1 then refuse s .range
  else
    match restartKind? (fieldAt params 0 1) with
    | none => refuse s .range
    | some k =>
      if s.management.restart.isSome then refuse s .busy
      else (s.onManagement (fun m => { m with restart := some ⟨k, none⟩ }), .done, [])

/-- A taken Restart waits for its response's copy where the response was admitted (R195). -/
def State.awaitResponse (r : State × Option (Status × Admission)) : State :=
  match r.2 with
  | some (.done, .stored ref) =>
    r.1.onManagement (fun m => { m with restart := m.restart.map (fun x => { x with response := some ref }) })
  | _ => r.1

/-- Restart taken from its source's port (R183, R195, log 2). -/
def State.takeRestart (src : Source) (s : State) : State :=
  match s.firstHanded (sourcePort src) with
  | some f =>
    if frameKind f = 0x60 ∧ requestOperation f = some 114 then
      (State.awaitResponse ((s.takeHanded (sourcePort src)).runRequest src 114 serveRestart f)).serveUnassigned (sourcePort src)
    else s
  | none => s

/-- The meaning of RESTART (R195). -/
def execRestart (src : Source) (s : State) : Host.Outcome State Fault Refusal := .next (State.takeRestart src s)

end Sys2Proof.Machine
end

