-- ==== Sys2Proof/Machine/Restarts.lean ====
section
/-! DEFINITION. The resets and the supply, the end of a load, the links' changes, and the millisecond advance (R1, R15, R196,
R197). -/

namespace Sys2Proof.Machine

/-! ### What resets do to the blocks -/

/-- A port after a pin reset or Full Restart: its Link kept, the rest as at power-on (R14, R49). -/
def resetPort (p : PortState) : PortState := { powerOnPort with linkUp := p.linkUp }

/-- A port after a Soft Restart: its Link and counts kept, its queues and its transmitter empty (R14, R49). -/
def restartPort (p : PortState) : PortState := { p with queues := emptyQueues, sending := none, drr := resetDrr }

/-- A session after a reset other than power-on (R164); its two counts are kept over a Soft Restart alone. -/
def resetSession (x : Session) (keepCounts : Bool) : Session :=
  { powerOnSession with
    openTag := x.openTag
    lastOutcome := if x.state.active then some .reset else x.lastOutcome
    messageErrors := if keepCounts then x.messageErrors else 0
    outOfPlace := if keepCounts then x.outOfPlace else 0 }

/-- The Guest Unit after a pin reset or Full Restart: a move from Trading to Closed raises the Closing Number and starts the
sweep afresh (R12, R182). At the release of a RESET that was held, the sweep that its fall started still stands (log 14). -/
def resetGuests (g : GuestUnit) (wasTrading held : Bool) : GuestUnit :=
  { powerOnGuests with
    closingNumber := if wasTrading then wrap16 g.closingNumber else g.closingNumber
    sweep := if wasTrading then some 0 else if held then g.sweep else none }

/-- The Management Unit after a pin reset or Full Restart: the causes and the straps as given (R194, R201). -/
def resetManagement (m : Management) (causes : ResetCauses) (strap : BitVec 4) : Management :=
  { powerOnManagement strap m.flash with causes := causes }

/-- Every block at its values for a pin reset or a Full Restart, the image Loading (R11, R12, R14, R25, R49, R71, R120, R139,
R164, R182, R201). Store Time and Time Valid run on (R3). The journal is as given. A slot that was due and whose row had not
come is not fired (the model's choice, log 65). -/
def State.resetBlocks (s : State) (causes : ResetCauses) (strap : BitVec 4) (journal : Journal) : State :=
  { State.atPowerOn strap s.management.flash with
    supplied := s.supplied
    resetHeld := s.resetHeld
    clock := s.clock
    ports := s.ports.map resetPort
    journal := { journal with messageErrors := 0 }
    session := resetSession s.session false
    guests := resetGuests s.guests (decide (s.mode = .trading)) s.resetHeld
    management := resetManagement s.management causes strap
    beaconPulses := s.beaconPulses
    freeUsed := s.freeUsed
    pending := s.pending }

/-! ### The supply and the RESET line (R196, R198) -/

/-- Supply established: every block at its power-on values (R196). What the model counts for itself, and the level of the
RESET line, are kept. -/
def State.powerOn (s : State) (straps : BitVec 4) : State :=
  { State.atPowerOn straps s.management.flash with
    resetHeld := s.resetHeld
    beaconPulses := s.beaconPulses
    freeUsed := s.freeUsed
    pending := s.pending }

/-- The meaning of POWER_ON (R196). -/
def execPowerOn (straps : BitVec 4) (s : State) : Host.Outcome State Fault Refusal := .next (s.powerOn straps)

/-- The meaning of LOSS_OF_SUPPLY (R198): nothing of the part is left but its flash, in which a save under way has left an
invalid image (log 15). -/
def execLossOfSupply (s : State) : Host.Outcome State Fault Refusal :=
  .next ((s.powerOn s.management.strap).setSupplied false)

/-- The RESET line falls: the part stands at the start of its load, a transmission under way is cut short, and a record being
written may be left torn (R81, R196, log 14). -/
def State.resetAssert (s : State) (torn : Option Slot) : State :=
  if s.resetHeld then s
  else if s.supplied then
    (s.resetBlocks s.management.causes s.management.strap { s.tornJournal torn with scan := none }).setResetHeld true
  else s.setResetHeld true

/-- The meaning of RESET_ASSERT (R196). -/
def execResetAssert (torn : Option Slot) (s : State) : Host.Outcome State Fault Refusal := .next (s.resetAssert torn)

/-- The release of RESET: a pin reset (R194, R196). -/
def State.pinReset (s : State) (straps : BitVec 4) : State :=
  if s.supplied then
    (s.resetBlocks { s.management.causes with pin := true } straps s.journal.startScan).setResetHeld false
  else s.setResetHeld false

/-- The meaning of PIN_RESET (R196). -/
def execPinReset (straps : BitVec 4) (s : State) : Host.Outcome State Fault Refusal := .next (s.pinReset straps)

/-! ### The restarts (R195, R196) -/

/-- Whether a Restart of a kind is pending and its response's copy has ended (R195, log 33). -/
def State.restartDue (s : State) (k : RestartKind) : Bool := decide (s.management.restart = some ⟨k, none⟩)

/-- The meaning of FULL_RESTART (R196). -/
def execFullRestart (straps : BitVec 4) (torn : Option Slot) (s : State) : Host.Outcome State Fault Refusal :=
  .next (if s.restartDue .full then
    s.resetBlocks { s.management.causes with full := true } straps (s.tornJournal torn).startScan
  else s)

/-- The Management Unit at a Soft Restart (R194, R195, R198, R201). -/
def softManagement (m : Management) (heartbeat : Nat) : Management :=
  { m with
    supervision := ⟨true, if heartbeat = 0 then none else some (1000 * heartbeat), m.supervision.station⟩
    causes := { m.causes with soft := true }
    restart := none
    image := if m.saving.isSome then .bad else m.image
    saving := none }

/-- What a Soft Restart does but for the Label Engine, the batch and the notices owed (R11, R12, R25, R49, R71, R91, R164,
R182, R201). -/
def State.softBlocks (s : State) (torn : Option Slot) : State :=
  { s with
    ports := s.ports.map restartPort
    pool := resetPool
    addresses := []
    handed := []
    tills := s.tills.mapRecords (fun t => { t with port := none })
    load := { s.load with owner := none, phase := 0 }
    journal := (s.tornJournal torn).startScan
    session := resetSession s.session true
    guests := { s.guests with table := [], sweep := none }
    management := softManagement s.management s.settings.management.heartbeat }

/-- A Soft Restart: an Open batch is withdrawn (R139), the Label Engine restarts (R120), and the notices owed are offered once
the controller is Present again (R190, R201, log 13). R196 makes it one event and gives its counts no order: BATCH-DISCARDED
comes first and the Label Engine's LABEL-STALE and LINK-FAULT after it, and so do their notices (the model's choice,
log 53). -/
def State.softRestart (s : State) (torn : Option Slot) : State :=
  (((s.softBlocks torn).discardBatch).restartLabels).offerOwedIfOpened s.noticesOpen

/-- The meaning of SOFT_RESTART (R196). -/
def execSoftRestart (torn : Option Slot) (s : State) : Host.Outcome State Fault Refusal :=
  .next (if s.restartDue .soft then s.softRestart torn else s)

/-! ### The end of a load (R197) -/

/-- Whether the stored image is Good: format mark, check value, every setting within its range (R186, R197). -/
def State.imageHolds (s : State) : Bool :=
  let c := s.management.flash.contents
  s.management.flash.formatMark && s.management.flash.checkHolds && c.settings.inRange && c.times.inRange &&
  decide (c.settings.management.headOffice ≠ some (s.setSettings c.settings).managementAddress)

/-- The settings taken when a load ends, and the image's state (R197). -/
def State.takeImage (s : State) (good : Bool) : State :=
  let c := if good then s.management.flash.contents else ⟨defaultSettings, defaultTimes⟩
  ((s.setSettings c.settings).setSchedule (s.schedule.takeTimes c.times)).onManagement
    (fun m => { m with image := if good then .good else .bad })

/-- The daily slots settled where Time Valid is true (R11). -/
def State.settleIfValid (s : State) : State := if s.clock.valid then s.settle else s

/-- The pacer when loading ends: its first superframe starts at the next advance (R109, R120). Where the pacer does not run its Time
Left stays as it was, which nothing reads (the model's choice, log 6). -/
def State.startPacer (s : State) : State := if s.pacerRuns then s.setPacer { s.pacer with timeLeft := 1 } else s

/-- The Supervision Timer restarted when loading ends (R188). -/
def State.startSupervision (s : State) : State :=
  let p := s.settings.management.heartbeat
  s.onManagement (fun m => { m with supervision := { m.supervision with timer := if p = 0 then none else some (1000 * p) } })

/-- What the blocks do when loading ends (R197), the owed notices with it (R190, log 13). B0 comes out of Off before B1 (the
model's choice, log 45), and a LINK-FAULT they count comes before the owed notices and CONFIG-BAD (the model's choice,
log 53). -/
def State.endLoad (s : State) (good : Bool) : State :=
  let s1 := ((s.takeImage good).settleIfValid.evaluateHours).startPacer.startSupervision
  let s2 := (s1.bringUpIfPaced .b0).bringUpIfPaced .b1
  let s3 := s2.offerOwedIfOpened s.noticesOpen
  if good then s3 else s3.count .configBad

/-- The load ends: `answered` tells whether the flash answered (R197). Nothing is loading while RESET is held (R196). -/
def State.configurationLoadEnd (s : State) (answered : Bool) : State :=
  if s.supplied = true ∧ s.resetHeld = false ∧ s.loading = true then s.endLoad (answered && s.imageHolds) else s

/-- The meaning of CONFIGURATION_LOAD_END (R197). -/
def execConfigurationLoadEnd (answered : Bool) (s : State) : Host.Outcome State Fault Refusal :=
  .next (s.configurationLoadEnd answered)

/-! ### Links (R15) -/

/-- A link comes up: the port receives and transmits; a Label link may come out of Off, and CTL may open the way for owed
notices (R15, R105, R190). -/
def State.linkUp (s : State) (p : PortId) : State :=
  if s.supplied = true ∧ s.isUp p = false then
    let s1 := s.setPort p { s.port p with linkUp := true }
    match p with
    | .b l => s1.bringUpIfPaced l
    | .ctl => s1.offerOwedIfOpened s.noticesOpen
    | .up | .t _ | .a _ => s1
  else s

/-- The meaning of LINK_UP (R15). -/
def execLinkUp (p : PortId) (s : State) : Host.Outcome State Fault Refusal := .next (s.linkUp p)

/-- The Link Down notice to the blocks that hold state for a port, but for the Output Scheduler (R15). -/
def State.linkLost (s : State) : PortId → State
  | .up => s
  | .ctl => s.flushPort .ctl
  | .t n => (s.flushPort (.t n)).setTills (absentOn n s.tills)
  | .a n => s.clearGuestPorts n
  | .b l => (s.flushPort (.b l)).goOff l

/-- A link goes down (R15). The port's queues are discarded before the block that holds state for the port is told: R15 calls
that order immaterial, and only the notices of a label link that leaves Ready can show it (the model's choice, log 53). -/
def State.linkDown (s : State) (p : PortId) : State :=
  if s.isUp p then ((s.setPort p { s.port p with linkUp := false }).discardQueues p).linkLost p else s

/-- The meaning of LINK_DOWN (R15). -/
def execLinkDown (p : PortId) (s : State) : Host.Outcome State Fault Refusal := .next (s.linkDown p)

/-! ### The millisecond advance (R1, R2) -/

/-- What has fallen due and has not been taken by its own row, taken before the next millisecond (R1, R7, log 1); a journal
report that can be answered and was left is answered last (R145, log 42). -/
def State.takeDue (s : State) : State :=
  let s1 := s.fireDue.pacerExpiry.loadLapse.supervisionExpiry.blockTimerExpiry
  (s1.setAddresses (s1.addresses.keep (fun e => decide (e.age ≠ 0)))).dropPending.reachGuestTimes.transferOpen

/-- The shaper's bucket after an elapsed millisecond (R46). -/
def refillShaper (rate bucket : Nat) : Nat := if rate = 0 then 3072000 else min (bucket + rate) 3072000

/-- A count of seconds with its milliseconds, one elapsed millisecond on: it falls by 1 at each 1,000 (R24, R67). -/
def tickSeconds (seconds phase : Nat) : Nat × Nat := if phase + 1 < 1000 then (seconds, phase + 1) else (seconds - 1, 0)

/-- An Address Table entry after an elapsed millisecond (R24). -/
def tickAddress (e : AddressEntry) : AddressEntry :=
  { e with age := (tickSeconds e.age e.phase).1, phase := (tickSeconds e.age e.phase).2 }

/-- The Load Transaction's Timer after an elapsed millisecond (R67, R69). -/
def tickLoad (l : LoadTransaction) : LoadTransaction :=
  if l.owner.isSome then { l with timer := (tickSeconds l.timer l.phase).1, phase := (tickSeconds l.timer l.phase).2 } else l

/-- A guest entry after an elapsed millisecond: its buckets refill and Pending Left falls (R169, R174). -/
def tickGuest (floor : Nat) (g : Guest) : Guest :=
  { refillGuest floor g with state := match g.state with
    | .pending left => .pending (left - 1)
    | .admitted e => .admitted e
    | .throttled e => .throttled e
    | .expired h => .expired h
    | .barred => .barred }

/-- The pacer's Time Left after an elapsed millisecond: held while Loading, not used while the pacer does not run (R109). -/
def State.tickPacer (s : State) : State :=
  if s.pacerRuns && !s.loading then s.setPacer { s.pacer with timeLeft := s.pacer.timeLeft - 1 } else s

/-- The superframe of a Beacon Once, at the next advance (R110). -/
def State.onceSuperframe (s : State) : State :=
  if s.pacer.oncePending && !s.loading then (s.setPacer { s.pacer with oncePending := false }).superframeStart else s

/-- Every timer and refill of R2 one elapsed millisecond on. -/
def State.tickTimers (s : State) : State :=
  let s1 := s.setPool { s.pool with bucket := refillShaper s.settings.queue.shaperRate s.pool.bucket }
  let s2 := s1.setAddresses (s1.addresses.mapRecords tickAddress)
  let s3 := s2.setLoad (tickLoad s2.load)
  let s4 := s3.setGuestTable (s3.guests.table.mapRecords (tickGuest s3.settings.guest.floor))
  let s5 := s4.onManagement (fun m => { m with supervision := { m.supervision with
    timer := m.supervision.timer.map (fun n => n - 1) } })
  s5.onSession (fun x => { x with timer := x.timer.map (fun n => n - 1) })

/-- Store Time one millisecond on (R1). -/
def State.tickClock (s : State) : State := s.setClock { s.clock with now := Moment.next s.clock.now }

/-- The meaning of MILLISECOND_ADVANCE (R1, R2). -/
def execMillisecondAdvance (s : State) : Host.Outcome State Fault Refusal :=
  .next s.takeDue.tickClock.tickTimers.tickPacer.onceSuperframe

end Sys2Proof.Machine
end

