-- ==== Sys2Proof/Machine/Dispatch.lean ====
section
/-! DEFINITION. One arm per command: the meaning it calls. -/

namespace Sys2Proof.Machine

/-- What a command does to everything but the queue. -/
def exec (i : Instr) (s : State) : Host.Outcome State Fault Refusal :=
  match i with
  | .powerOn straps => Sys2Proof.Machine.execPowerOn straps s
  | .resetAssert torn => Sys2Proof.Machine.execResetAssert torn s
  | .pinReset straps => Sys2Proof.Machine.execPinReset straps s
  | .fullRestart straps torn => Sys2Proof.Machine.execFullRestart straps torn s
  | .softRestart torn => Sys2Proof.Machine.execSoftRestart torn s
  | .configurationLoadEnd answered => Sys2Proof.Machine.execConfigurationLoadEnd answered s
  | .saveEnd written => Sys2Proof.Machine.execSaveEnd written s
  | .millisecondAdvance => Sys2Proof.Machine.execMillisecondAdvance s
  | .storeOpen => Sys2Proof.Machine.execStoreOpen s
  | .storeClose => Sys2Proof.Machine.execStoreClose s
  | .nightStart => Sys2Proof.Machine.execNightStart s
  | .nightEnd => Sys2Proof.Machine.execNightEnd s
  | .cutover => Sys2Proof.Machine.execCutover s
  | .linkUp p => Sys2Proof.Machine.execLinkUp p s
  | .linkDown p => Sys2Proof.Machine.execLinkDown p s
  | .beaconInEdge => Sys2Proof.Machine.execBeaconInEdge s
  | .frameReceived p frame => Sys2Proof.Machine.execFrameReceived p frame s
  | .transmitStart p => Sys2Proof.Machine.execTransmitStart p s
  | .transmitComplete p => Sys2Proof.Machine.execTransmitComplete p s
  | .waitingBlockReoffer => Sys2Proof.Machine.execWaitingBlockReoffer s
  | .addressAgeExpiry a => Sys2Proof.Machine.execAddressAgeExpiry a s
  | .signOn n => Sys2Proof.Machine.execSignOn n s
  | .signOff n => Sys2Proof.Machine.execSignOff n s
  | .priceQuery n => Sys2Proof.Machine.execPriceQuery n s
  | .saleRecord n => Sys2Proof.Machine.execSaleRecord n s
  | .recoveryScanStep damaged => Sys2Proof.Machine.execRecoveryScanStep damaged s
  | .labelReport l => Sys2Proof.Machine.execLabelReport l s
  | .stationStatus l => Sys2Proof.Machine.execStationStatus l s
  | .pacerExpiry => Sys2Proof.Machine.execPacerExpiry s
  | .linkSilence l => Sys2Proof.Machine.execLinkSilence l s
  | .labelDeadline index => Sys2Proof.Machine.execLabelDeadline index s
  | .staleScanStep l => Sys2Proof.Machine.execStaleScanStep l s
  | .transferOpen => Sys2Proof.Machine.execTransferOpen s
  | .transferAccept => Sys2Proof.Machine.execTransferAccept s
  | .blockAck => Sys2Proof.Machine.execBlockAck s
  | .batchOpen => Sys2Proof.Machine.execBatchOpen s
  | .batchPart => Sys2Proof.Machine.execBatchPart s
  | .batchClose => Sys2Proof.Machine.execBatchClose s
  | .endAck => Sys2Proof.Machine.execEndAck s
  | .blockTimerExpiry => Sys2Proof.Machine.execBlockTimerExpiry s
  | .cutoverSweepStep => Sys2Proof.Machine.execCutoverSweepStep s
  | .withdrawSweepStep => Sys2Proof.Machine.execWithdrawSweepStep s
  | .closingSweepStep => Sys2Proof.Machine.execClosingSweepStep s
  | .pendingTimeout slot => Sys2Proof.Machine.execPendingTimeout slot s
  | .guestExpiry slot => Sys2Proof.Machine.execGuestExpiry slot s
  | .holdUntilReached slot => Sys2Proof.Machine.execHoldUntilReached slot s
  | .loadTransactionLapse => Sys2Proof.Machine.execLoadTransactionLapse s
  | .supervisionTimerExpiry => Sys2Proof.Machine.execSupervisionTimerExpiry s
  | .owedNotices => Sys2Proof.Machine.execOwedNotices s
  | .readStatus src => Sys2Proof.Machine.execReadStatus src s
  | .readCounters src => Sys2Proof.Machine.execReadCounters src s
  | .clearEvents src => Sys2Proof.Machine.execClearEvents src s
  | .clearResetCauses src => Sys2Proof.Machine.execClearResetCauses src s
  | .setTime src => Sys2Proof.Machine.execSetTime src s
  | .setScheduleSlot src => Sys2Proof.Machine.execSetScheduleSlot src s
  | .setStoreMode src => Sys2Proof.Machine.execSetStoreMode src s
  | .itemWrite src => Sys2Proof.Machine.execItemWrite src s
  | .itemRead src => Sys2Proof.Machine.execItemRead src s
  | .itemDelete src => Sys2Proof.Machine.execItemDelete src s
  | .priceChange src => Sys2Proof.Machine.execPriceChange src s
  | .loadBegin src => Sys2Proof.Machine.execLoadBegin src s
  | .loadPart src => Sys2Proof.Machine.execLoadPart src s
  | .loadEnd src => Sys2Proof.Machine.execLoadEnd src s
  | .labelAttach src => Sys2Proof.Machine.execLabelAttach src s
  | .labelDetach src => Sys2Proof.Machine.execLabelDetach src s
  | .labelRemove src => Sys2Proof.Machine.execLabelRemove src s
  | .labelResend src => Sys2Proof.Machine.execLabelResend src s
  | .labelRead src => Sys2Proof.Machine.execLabelRead src s
  | .linkClear src => Sys2Proof.Machine.execLinkClear src s
  | .beaconOnce src => Sys2Proof.Machine.execBeaconOnce src s
  | .guestAdmit src => Sys2Proof.Machine.execGuestAdmit src s
  | .guestEnd src => Sys2Proof.Machine.execGuestEnd src s
  | .guestBar src => Sys2Proof.Machine.execGuestBar src s
  | .guestUnbar src => Sys2Proof.Machine.execGuestUnbar src s
  | .guestRead src => Sys2Proof.Machine.execGuestRead src s
  | .zoneMatrixWrite src => Sys2Proof.Machine.execZoneMatrixWrite src s
  | .addressFlush src => Sys2Proof.Machine.execAddressFlush src s
  | .queueSettingsWrite src => Sys2Proof.Machine.execQueueSettingsWrite src s
  | .nightLinkStart src => Sys2Proof.Machine.execNightLinkStart src s
  | .nightLinkStop src => Sys2Proof.Machine.execNightLinkStop src s
  | .batchWithdraw src => Sys2Proof.Machine.execBatchWithdraw src s
  | .cutoverNow src => Sys2Proof.Machine.execCutoverNow src s
  | .heartbeat src => Sys2Proof.Machine.execHeartbeat src s
  | .saveConfiguration src => Sys2Proof.Machine.execSaveConfiguration src s
  | .restart src => Sys2Proof.Machine.execRestart src s
  | .lossOfSupply => Sys2Proof.Machine.execLossOfSupply s

end Sys2Proof.Machine
end

