-- ==== Sys2Proof/Safety.lean ====
section
/-! DEFINITION. What the statements speak of: the laws the part keeps at every step, what a step may change while it only
says something, and when a Control Request or a message stands ready to be taken. -/

namespace Sys2Proof.Machine

/-! ### Laws kept at every step -/

/-- Store Time is a day of 0-65,535 and a millisecond of 0-86,399,999 (R1). -/
abbrev State.TimeLegal (s : State) : Prop := s.clock.now.day ≤ 65535 ∧ s.clock.now.ms < dayMs

/-- Every Event Counter lies in 0-65,535, and the Notice Number too (R189, R190). -/
abbrev State.CountersLegal (s : State) : Prop :=
  (∀ i : Fin 33, s.events.counters[i] ≤ 65535) ∧ s.events.noticeNumber ≤ 65535

/-- The held records carry consecutive Journal Sequences, the newest one below Next Sequence (R72); while the Recovery Scan runs,
those it has kept (R86). -/
abbrev State.SequencesRun (s : State) : Prop :=
  ∀ x ∈ s.journal.slots.zipIdx, (∀ pos ∈ s.journal.scan, x.2 < pos) →
    x.1.record.sequence = s.journal.nextValue - s.journal.slots.length + x.2

/-- The journal holds at most 16,384 records, its Head is a slot, and its sequences run from 1 up to 4,294,967,295, one after
another, but while RESET is held over what it may have left torn (R72, log 14, log 16). While the Recovery Scan runs no session
has gone past a Transfer Open, so that nothing removes records (R84, R145). -/
abbrev State.JournalLegal (s : State) : Prop :=
  s.journal.slots.length ≤ ringSlots ∧ s.journal.head < ringSlots ∧ s.journal.slots.length < s.journal.nextValue ∧
  s.journal.nextValue ≤ 4294967296 ∧ s.journal.nextSequence ≠ some 4294967296 ∧
  ((s.supplied = true ∧ s.resetHeld = true) ∨ s.SequencesRun) ∧
  (s.journal.scan.isSome = true → s.session.state.active = false ∨
    (s.session.state = .opening ∧ s.session.timer = none ∧ s.session.openOffered = false))

/-- The keyed tables stand in their canonical form, so that no key appears twice (R22, R50, R56, R92, R165). -/
abbrev State.TablesCanonical (s : State) : Prop :=
  Table.wf s.items ∧ Table.wf s.tills ∧ Table.wf s.labels ∧ Table.wf s.addresses ∧ Table.wf s.guests.table

/-- No station address is held at once in the Address Table and the Guest Session Table (R23). -/
abbrev State.StationsApart (s : State) : Prop := ∀ e ∈ s.addresses, ∀ g ∈ s.guests.table, e.1 ≠ g.2.station.toNat

/-- A port has at most one till Signed-On on it (R56). -/
abbrev State.OneTillPerPort (s : State) : Prop :=
  ∀ x ∈ s.tills, ∀ y ∈ s.tills, x.2.port.isSome = true → x.2.port = y.2.port → x.1 = y.1

/-- The outstanding Journal Blocks number at most the Window, which is at most 4 (R141, R148). -/
abbrev State.BlocksWithinWindow (s : State) : Prop :=
  (∀ w ∈ s.session.window, w ≤ 4 ∧ s.session.outstanding.length ≤ w) ∧
  (s.session.window = none → s.session.outstanding = []) ∧
  (s.session.state = .opening → s.session.outstanding = [])

/-- The outstanding Journal Blocks run on from the oldest record held, in order: their Block Numbers are consecutive up to the one
before Next Block Number, each has 1 to 32 records, which begin where those of the blocks before it end, and Next Send stands
behind the last of them, at most one past the Drain Mark, which the journal has reached. Outside Draining and Stopping there are
none (R141, R148). -/
abbrev State.BlocksInOrder (s : State) : Prop :=
  (s.session.state ≠ .draining → s.session.state ≠ .stopping → s.session.outstanding = []) ∧
  (∀ x ∈ s.session.outstanding.zipIdx, x.1.number + (s.session.outstanding.length - x.2) = s.session.nextBlock ∧
    1 ≤ x.1.records ∧ x.1.records ≤ 32 ∧
    x.1.first = s.journal.nextValue - s.journal.slots.length +
      ((s.session.outstanding.take x.2).map OutBlock.records).sum) ∧
  (s.session.state = .draining ∨ s.session.state = .stopping →
    (s.session.nextSend = none ∧ s.session.outstanding = []) ∨
    ∃ q ∈ s.session.nextSend, ∃ d ∈ s.session.drainMark,
      q = s.journal.nextValue - s.journal.slots.length + (s.session.outstanding.map OutBlock.records).sum ∧
      q ≤ d + 1 ∧ d + 1 ≤ s.journal.nextValue)

/-- Whether a label's update is in flight: Sent (R93). -/
def LabelState.inFlight : LabelState → Bool
  | .sent _ _ => true
  | .unassigned | .current | .queued | .stale | .lost => false

/-- The work of the labels stands where their states say: each Queued label once in the Work Queue of its own link, which holds at
most 512, and each Sent one once in its link's order of sending; nothing else stands in either, and only a Ready link has labels
in flight. A label is Unassigned exactly where no item has it (R92, R93, R99, R104). -/
abbrev State.LabelWorkLegal (s : State) : Prop :=
  Table.wf s.labels ∧
  (∀ l ∈ [LinkId.b0, .b1], (s.link l).queue.Nodup ∧ (s.link l).sentOrder.Nodup ∧ (s.link l).queue.length ≤ 512 ∧
    (∀ i ∈ (s.link l).queue, ∃ lab ∈ s.labels.get? i, lab.link = l ∧ lab.state = .queued) ∧
    (∀ i ∈ (s.link l).sentOrder, ∃ lab ∈ s.labels.get? i, lab.link = l ∧ lab.state.inFlight = true) ∧
    ((s.link l).state ≠ .ready → (s.link l).sentOrder = [])) ∧
  (∀ kv ∈ s.labels, (kv.2.state = .queued → kv.1 ∈ (s.link kv.2.link).queue) ∧
    (kv.2.state.inFlight = true → kv.1 ∈ (s.link kv.2.link).sentOrder) ∧ (kv.2.item = none ↔ kv.2.state = .unassigned))

/-- Items and labels agree: a label's Item Index names the item whose Label List holds its ID and no other list does; a list names
each of its labels once, at most four; no two labels have one ID and no two items one code; and every Shelf Floor is the lowest
known Shown Price of the item's labels (R50, R51, R92, R94, R98). -/
abbrev State.ShelvesAgree (s : State) : Prop :=
  Table.wf s.items ∧ Table.wf s.labels ∧
  (∀ x ∈ s.labels, ∀ y ∈ s.labels, x.2.id = y.2.id → x.1 = y.1) ∧
  (∀ x ∈ s.items, ∀ y ∈ s.items, x.2.code = y.2.code → x.1 = y.1) ∧
  (∀ kv ∈ s.labels, ∀ k ∈ kv.2.item, ∃ it ∈ s.items.get? k, kv.2.id ∈ it.labels) ∧
  (∀ kv ∈ s.items, kv.2.labels.Nodup ∧ kv.2.labels.length ≤ 4 ∧ kv.2.floor = s.lowestShown kv.2.labels ∧
    ∀ id ∈ kv.2.labels, ∃ x ∈ s.labels, x.2.id = id ∧ x.2.item = some kv.1)

/-- Stages stand with the batch alone: an item carries a stage only while there is a Batch Record, and a sweep has left none below
its Sweep Position. Every item has an Active or a Staged Price and an index of the table (R50, R121, R131, R136). -/
abbrev State.StagesWithBatch (s : State) : Prop :=
  Table.wf s.items ∧
  ∀ kv ∈ s.items, kv.1 < 32768 ∧ (kv.2.active.isSome = true ∨ kv.2.staged.isSome = true) ∧
    (kv.2.staged.isSome = true → ∃ b ∈ s.batch, b.state = .cutting ∨ b.state = .withdrawing → b.position ≤ kv.1)

/-- The cells of the stored frames of a class. -/
def State.heldCells (s : State) (c : OutClass) : Nat :=
  (s.pool.frames.map (fun kv => if kv.2.cls = c then cellsOf kv.2.bytes.length else 0)).sum

/-- The five classes. -/
def allClasses : List OutClass := [.control, .till, .label, .bulk, .guest]

/-- The three properties of the Cell Pool (R34), with the books they are kept by: Cells In Use are the cells of the stored
frames, references are not used twice, and nothing is stored while the image is Loading. -/
abbrev State.PoolLegal (s : State) : Prop :=
  s.pool.inUse.total ≤ 8192 ∧ s.pool.inUse.guest ≤ s.settings.queue.guestCap ∧
  shortfallSum s.settings.queue s.pool.inUse ≤ s.freeCells ∧
  (∀ c ∈ allClasses, s.pool.inUse.get c = s.heldCells c) ∧
  Table.wf s.pool.frames ∧ (∀ kv ∈ s.pool.frames, kv.1 < s.pool.nextRef) ∧
  (s.loading = true → s.pool.frames = [])

/-- The reserves and the Guest cap lie in their ranges (R34). -/
abbrev State.ReservesInRange (s : State) : Prop :=
  s.settings.queue.tillReserve ≤ 2048 ∧ s.settings.queue.controlReserve ≤ 512 ∧ s.settings.queue.guestCap ≤ 8192

/-! ### What a step may change while it only says something -/

/-- `t` is `s` after it has said something: frames built and stored or refused, the drops that refusals count, notices
offered or owed. Nothing else of the part has changed: every queue has kept its entries in their order, and every stored
frame stands as it did. -/
structure Spoken (s t : State) : Prop where
  rest : t = { s with
    ports := t.ports, pool := t.pool, management := { s.management with events := t.management.events } }
  ports : ∀ p, t.port p = { s.port p with queues := (t.port p).queues }
  queues : ∀ p c, s.queue p c <+: t.queue p c
  frames : ∀ r, r < s.pool.nextRef → t.pool.frames.get? r = s.pool.frames.get? r
  nextRef : s.pool.nextRef ≤ t.pool.nextRef
  bucket : t.pool.bucket = s.pool.bucket
  counters : ∀ k, k ≠ .cellDrop → k ≠ .queueDrop → t.counter k = s.counter k
  drops : ∀ k, min (s.counter k) 65535 ≤ t.counter k

/-- `t` is `s` after an answer: it has said something, and requests that no row takes, standing next in line, may have been
answered too (log 3). -/
structure Answered (s t : State) : Prop where
  handed : t.handed.Sublist s.handed
  spoken : Spoken { s with
    handed := t.handed, freeUsed := t.freeUsed
    management := { s.management with messageErrors := t.management.messageErrors } } t

/-! ### Frames of the label work and of the resets -/

/-- Whether a label's update is waiting or in flight: Queued or Sent (R93). -/
def LabelState.inWork : LabelState → Bool
  | .queued | .sent _ _ => true
  | .unassigned | .current | .stale | .lost => false

/-- The kinds that label work can count, and the two that a refused frame counts. -/
def labelKinds : List EventKind :=
  [.cellDrop, .queueDrop, .labelLost, .labelLate, .labelStale, .linkFault, .linkSilent]

/-- `t` is `s` after label work: items, labels and link records may have moved, events of the label kinds may have been counted,
and it may have said something. -/
structure OnlyLabelsMoved (s t : State) : Prop where
  rest : t = { s with
    items := t.items, labels := t.labels, links := t.links, ports := t.ports, pool := t.pool
    management := { s.management with events := t.management.events } }
  ports : ∀ p, t.port p = { s.port p with queues := (t.port p).queues }
  bucket : t.pool.bucket = s.pool.bucket
  counters : ∀ k, k ∉ labelKinds → t.counter k = s.counter k

/-- Whether a taken Queue Settings Write brings a link out of Off: it carries the source or P, superframes can start under it, and
the port of the Off link is Up (R105, R112). -/
def State.writeBringsUp (u : State) (es : List Entry) (x : Settings) (l : LinkId) : Bool :=
  carries es [13, 14] && !u.loading && (x.labels.external || decide (x.labels.period ≠ 0)) &&
  decide ((u.link l).state = .off) && u.isUp (.b l)

/-- The state in which a taken Queue Settings Write leaves a link (R105, R107, R112, log 57). -/
def State.writtenLinkState (u : State) (es : List Entry) (x : Settings) (l : LinkId) : LinkState :=
  if u.writeBringsUp es x l then
    if x.labels.faultThreshold ≤ (u.link l).checkErrors then .faulted else .silent
  else if carries es [13, 14] = true ∧ (u.loading = true ∨ (x.labels.external = false ∧ x.labels.period = 0)) then .off
  else if carries es [17] = true ∧ ((u.link l).state = .silent ∨ (u.link l).state = .ready) ∧
      x.labels.faultThreshold ≤ (u.link l).checkErrors then .faulted
  else (u.link l).state

/-- The Sent labels of a link that return to its queue when it leaves Ready, the earliest sent first (R104). -/
def LinkRecord.returned (r : LinkRecord) : List Nat := r.sentOrder.take (512 - r.queue.length)

/-- The Sent labels for which its queue then has no room (R104). -/
def LinkRecord.overflow (r : LinkRecord) : List Nat := r.sentOrder.drop (512 - r.queue.length)

/-- A link's record once it has left Ready, or as it was: its queue and its labels in flight (R104). -/
def LinkRecord.yielded (r : LinkRecord) (leaves : Bool) : LinkRecord :=
  if leaves then { r with queue := r.returned ++ r.queue, sentOrder := [] } else r

/-- Whether a taken Queue Settings Write takes a link out of Ready. -/
def State.writeLeavesReady (u : State) (es : List Entry) (x : Settings) (l : LinkId) : Bool :=
  decide ((u.link l).state = .ready) && decide (u.writtenLinkState es x l ≠ .ready)

/-- The values that power-on gives, where the spec states them (R3, R11, R12, R14, R25, R49, R71, R91, R120, R139, R164, R182,
R189, R190, R194, R201). -/
abbrev State.Fresh (t : State) : Prop :=
  t.supplied = true ∧ t.clock = ⟨⟨0, 0⟩, false⟩ ∧ t.mode = .closed ∧
  (t.schedule.storeOpen.firedDay = none ∧ t.schedule.storeClose.firedDay = none ∧ t.schedule.nightStart.firedDay = none ∧
    t.schedule.nightEnd.firedDay = none ∧ t.schedule.cutover = none ∧ t.schedule.inhibit = false) ∧
  (∀ p ∈ allPorts, t.port p = ⟨false, 0, 0, 0, 0, ⟨[], [], [], [], []⟩, none, ⟨false, false, 0, 0⟩⟩) ∧
  t.addresses = [] ∧ t.handed = [] ∧
  (t.pool.frames = [] ∧ t.pool.inUse = ⟨0, 0, 0, 0, 0⟩ ∧ t.pool.bucket = 3072000) ∧
  t.items = [] ∧ t.tills = [] ∧ t.priceErrors = 0 ∧
  (t.load.owner = none ∧ t.load.parts = 0 ∧ t.load.applied = 0 ∧ t.load.refused = 0) ∧
  t.journal = ⟨0, [], some 1, none, 0, 0, none⟩ ∧ t.labels = [] ∧
  t.links = ⟨⟨.off, 0, 0, [], [], 0⟩, ⟨.off, 0, 0, [], [], 0⟩⟩ ∧
  (t.pacer.remainder = 0 ∧ t.pacer.oncePending = false ∧ t.pacer.count = 0 ∧ t.pacer.number = 0 ∧ t.pacer.window = []) ∧
  t.batch = none ∧ t.lastVerdict = none ∧
  (t.session.type = none ∧ t.session.state = .idle ∧ t.session.openTag = 0 ∧ t.session.sessionId = none ∧
    t.session.window = none ∧ t.session.drainMark = none ∧ t.session.nextSend = none ∧ t.session.outstanding = [] ∧
    t.session.nextBlock = 1 ∧ t.session.retry = 0 ∧ t.session.acknowledged = 0 ∧ t.session.timer = none ∧
    t.session.verdict = none ∧ t.session.lastOutcome = none ∧ t.session.messageErrors = 0 ∧ t.session.outOfPlace = 0) ∧
  t.guests = ⟨[], 0, none, 0, 0, 0⟩ ∧
  (t.management.supervision = ⟨true, none, none⟩ ∧ t.management.events.counters = Vector.replicate 33 0 ∧
    t.management.events.owed = Vector.replicate 33 false ∧ t.management.events.noticeNumber = 0 ∧
    t.management.messageErrors = 0 ∧ t.management.causes = ⟨true, false, false, false⟩ ∧ t.management.restart = none ∧
    t.management.image = .loading ∧ t.management.saving = none)

/-- The session that a reset other than power-on leaves, but for its two message counts (R164). -/
abbrev State.SessionEnded (s t : State) : Prop :=
  t.session.type = none ∧ t.session.state = .idle ∧ t.session.openTag = s.session.openTag ∧ t.session.sessionId = none ∧
  t.session.window = none ∧ t.session.drainMark = none ∧ t.session.nextSend = none ∧ t.session.outstanding = [] ∧
  t.session.nextBlock = 1 ∧ t.session.retry = 0 ∧ t.session.acknowledged = 0 ∧ t.session.timer = none ∧
  t.session.verdict = none ∧
  t.session.lastOutcome = (if s.session.state.active then some .reset else s.session.lastOutcome)

/-- What a pin reset and a Full Restart leave of the blocks other than the journal, and what they keep (R3, R11, R12, R14, R25,
R49, R71, R120, R139, R164, R182, R194, R201). -/
abbrev State.Cleared (s t : State) : Prop :=
  t.clock = s.clock ∧ t.mode = .closed ∧
  (t.schedule.storeOpen.firedDay = none ∧ t.schedule.storeClose.firedDay = none ∧ t.schedule.nightStart.firedDay = none ∧
    t.schedule.nightEnd.firedDay = none ∧ t.schedule.cutover = none ∧ t.schedule.inhibit = false) ∧
  (∀ p ∈ allPorts, t.port p = ⟨s.isUp p, 0, 0, 0, 0, ⟨[], [], [], [], []⟩, none, ⟨false, false, 0, 0⟩⟩) ∧
  t.addresses = [] ∧ t.handed = [] ∧
  (t.pool.frames = [] ∧ t.pool.inUse = ⟨0, 0, 0, 0, 0⟩ ∧ t.pool.bucket = 3072000) ∧
  t.items = [] ∧ t.tills = [] ∧ t.priceErrors = 0 ∧
  (t.load.owner = none ∧ t.load.parts = 0 ∧ t.load.applied = 0 ∧ t.load.refused = 0) ∧
  t.labels = [] ∧ t.links = ⟨⟨.off, 0, 0, [], [], 0⟩, ⟨.off, 0, 0, [], [], 0⟩⟩ ∧
  (t.pacer.remainder = 0 ∧ t.pacer.oncePending = false ∧ t.pacer.count = 0 ∧ t.pacer.number = 0 ∧ t.pacer.window = []) ∧
  t.batch = none ∧ t.lastVerdict = none ∧
  s.SessionEnded t ∧ t.session.messageErrors = 0 ∧ t.session.outOfPlace = 0 ∧
  t.guests.table = [] ∧ t.guests.upDrops = 0 ∧ t.guests.downDrops = 0 ∧ t.guests.reclaims = 0 ∧
  t.guests.closingNumber = (if s.mode = .trading then wrap16 s.guests.closingNumber else s.guests.closingNumber) ∧
  (t.management.supervision = ⟨true, none, none⟩ ∧ t.management.events = resetEvents ∧ t.management.messageErrors = 0 ∧
    t.management.restart = none ∧ t.management.image = .loading ∧ t.management.saving = none ∧
    t.management.flash = s.management.flash)

/-! ### Frames that arrive -/

/-- A frame is accepted by a port's receiver and is not from the part's own address (R16, R17 step 1). -/
abbrev State.Arrives (s : State) (p : PortId) (f : List Byte) : Prop :=
  s.isUp p = true ∧ s.loading = false ∧ 64 ≤ f.length ∧ f.length ≤ 1536 ∧ frameCheckHolds f = true ∧
  frameSource f ≠ s.managementAddress

/-- Such a frame is an ordinary one (R18). -/
abbrev State.ArrivesOrdinary (s : State) (p : PortId) (f : List Byte) : Prop :=
  s.Arrives p f ∧ frameType f ≠ 0x9C41 ∧ frameDestination f ≠ s.managementAddress

/-- A port takes the kind of a message, by its zone and the further condition (R19). -/
abbrev State.TakesKind (s : State) (p : PortId) (f : List Byte) : Prop :=
  (portZone p = .till ∧ frameKind f ∈ [0x01, 0x03, 0x04, 0x06]) ∨
  (portZone p = .label ∧ frameKind f ∈ [0x22, 0x23]) ∨
  (portZone p = .controller ∧ frameKind f = 0x60) ∨
  (portZone p = .uplink ∧ s.settings.management.headOffice = some (frameSource f) ∧
    (frameKind f ∈ [0x41, 0x43, 0x44, 0x45, 0x47, 0x4A] ∨
      (frameKind f = 0x60 ∧ s.settings.management.uplinkManagement = true)))

/-- A frame is a branch message that its port takes (R18, R19). -/
abbrev State.MessageTaken (s : State) (p : PortId) (f : List Byte) : Prop :=
  frameType f = 0x9C41 ∧ frameDestination f = s.managementAddress ∧ frameVersion f = 1 ∧ s.TakesKind p f

/-- A unicast destination of a frame from `p` lies at the port `q`: the Address Table's port, or UP where neither table holds it
and the frame is not from UP (R26 steps 1 and 3). -/
abbrev State.LiesAt (s : State) (p : PortId) (dst : Station) (q : PortId) : Prop :=
  (∃ e ∈ s.findAddress dst, e.port = q) ∨
  (s.findAddress dst = none ∧ s.findGuest dst = none ∧ p ≠ .up ∧ q = .up)

/-- A unicast destination of a frame from `p` has no target: a guest's session without a port, or a frame from UP to a station that
neither table holds (R26 steps 2 and 4). -/
abbrev State.LiesNowhere (s : State) (p : PortId) (dst : Station) : Prop :=
  s.findAddress dst = none ∧
  ((s.findGuest dst = none ∧ p = .up) ∨ ∃ x ∈ s.findGuest dst, x.2.port = none)

/-- A Pending or Expired session, whose station the portal alone may reach and be reached from (R30, R31). -/
abbrev GuestState.Limited (st : GuestState) : Prop := (∃ left, st = .pending left) ∨ ∃ hold, st = .expired hold

/-- An Admitted or Throttled session (R30, R31). -/
abbrev GuestState.Live (st : GuestState) : Prop := ∃ e, st = .admitted e ∨ st = .throttled e

/-! ### Requests and messages that stand ready -/

/-- The Control Request that a row of 10.2 takes: its source and its operation number. -/
def requestOf : Instr → Option (Source × Nat)
  | .readStatus src => some (src, 1)
  | .readCounters src => some (src, 2)
  | .clearEvents src => some (src, 3)
  | .clearResetCauses src => some (src, 4)
  | .setTime src => some (src, 16)
  | .setScheduleSlot src => some (src, 17)
  | .setStoreMode src => some (src, 18)
  | .itemWrite src => some (src, 32)
  | .itemRead src => some (src, 33)
  | .itemDelete src => some (src, 34)
  | .priceChange src => some (src, 35)
  | .loadBegin src => some (src, 36)
  | .loadPart src => some (src, 37)
  | .loadEnd src => some (src, 38)
  | .labelAttach src => some (src, 48)
  | .labelDetach src => some (src, 49)
  | .labelRemove src => some (src, 50)
  | .labelResend src => some (src, 51)
  | .labelRead src => some (src, 52)
  | .linkClear src => some (src, 53)
  | .beaconOnce src => some (src, 54)
  | .guestAdmit src => some (src, 64)
  | .guestEnd src => some (src, 65)
  | .guestBar src => some (src, 66)
  | .guestUnbar src => some (src, 67)
  | .guestRead src => some (src, 68)
  | .zoneMatrixWrite src => some (src, 80)
  | .addressFlush src => some (src, 81)
  | .queueSettingsWrite src => some (src, 82)
  | .nightLinkStart src => some (src, 96)
  | .nightLinkStop src => some (src, 97)
  | .batchWithdraw src => some (src, 98)
  | .cutoverNow src => some (src, 99)
  | .heartbeat src => some (src, 112)
  | .saveConfiguration src => some (src, 113)
  | .restart src => some (src, 114)
  | .powerOn _ | .resetAssert _ | .pinReset _ | .fullRestart _ _ | .softRestart _ | .configurationLoadEnd _ | .saveEnd _
  | .millisecondAdvance | .storeOpen | .storeClose | .nightStart | .nightEnd | .cutover | .linkUp _ | .linkDown _
  | .beaconInEdge | .frameReceived _ _ | .transmitStart _ | .transmitComplete _ | .waitingBlockReoffer
  | .addressAgeExpiry _ | .signOn _ | .signOff _ | .priceQuery _ | .saleRecord _ | .recoveryScanStep _ | .labelReport _
  | .stationStatus _ | .pacerExpiry | .linkSilence _ | .labelDeadline _ | .staleScanStep _ | .transferOpen
  | .transferAccept | .blockAck | .batchOpen | .batchPart | .batchClose | .endAck | .blockTimerExpiry | .cutoverSweepStep
  | .withdrawSweepStep | .closingSweepStep | .pendingTimeout _ | .guestExpiry _ | .holdUntilReached _
  | .loadTransactionLapse | .supervisionTimerExpiry | .owedNotices | .lossOfSupply => none

/-- The message that a row of the till, label and night blocks takes: its port and its kind. -/
def messageOf : Instr → Option (PortId × Nat)
  | .signOn n => some (.t n, 0x01)
  | .signOff n => some (.t n, 0x03)
  | .priceQuery n => some (.t n, 0x04)
  | .saleRecord n => some (.t n, 0x06)
  | .labelReport l => some (.b l, 0x22)
  | .stationStatus l => some (.b l, 0x23)
  | .transferAccept => some (.up, 0x41)
  | .blockAck => some (.up, 0x43)
  | .batchOpen => some (.up, 0x44)
  | .batchPart => some (.up, 0x45)
  | .batchClose => some (.up, 0x47)
  | .endAck => some (.up, 0x4A)
  | .powerOn _ | .resetAssert _ | .pinReset _ | .fullRestart _ _ | .softRestart _ | .configurationLoadEnd _ | .saveEnd _
  | .millisecondAdvance | .storeOpen | .storeClose | .nightStart | .nightEnd | .cutover | .linkUp _ | .linkDown _
  | .beaconInEdge | .frameReceived _ _ | .transmitStart _ | .transmitComplete _ | .waitingBlockReoffer
  | .addressAgeExpiry _ | .recoveryScanStep _ | .pacerExpiry | .linkSilence _ | .labelDeadline _ | .staleScanStep _
  | .transferOpen | .blockTimerExpiry | .cutoverSweepStep | .withdrawSweepStep | .closingSweepStep | .pendingTimeout _
  | .guestExpiry _ | .holdUntilReached _ | .loadTransactionLapse | .supervisionTimerExpiry | .owedNotices | .lossOfSupply
  | .readStatus _ | .readCounters _ | .clearEvents _ | .clearResetCauses _ | .setTime _ | .setScheduleSlot _ | .setStoreMode _
  | .itemWrite _ | .itemRead _ | .itemDelete _ | .priceChange _ | .loadBegin _ | .loadPart _ | .loadEnd _ | .labelAttach _
  | .labelDetach _ | .labelRemove _ | .labelResend _ | .labelRead _ | .linkClear _ | .beaconOnce _ | .guestAdmit _ | .guestEnd _
  | .guestBar _ | .guestUnbar _ | .guestRead _ | .zoneMatrixWrite _ | .addressFlush _ | .queueSettingsWrite _
  | .nightLinkStart _ | .nightLinkStop _ | .batchWithdraw _ | .cutoverNow _ | .heartbeat _ | .saveConfiguration _
  | .restart _ => none

/-- A request of an operation stands first on its source's port, whose Link is Up, and it passes step b of R183. -/
abbrev State.Asked (s : State) (src : Source) (op : Nat) (f : List Byte) : Prop :=
  s.isUp (sourcePort src) = true ∧ s.firstHanded (sourcePort src) = some f ∧ frameKind f = 0x60 ∧
  requestOperation f = some op ∧ envelopeOk f = true

/-- Such a request, which also passes steps 2 and 3 of R183. -/
abbrev State.Permitted (s : State) (src : Source) (op : Nat) (f : List Byte) : Prop :=
  s.Asked src op f ∧ s.barRefuses src op = false ∧ sourceRefusal src op (requestParameters f) = none

/-- The state in which a request's own rule finds the part: the request taken, and the Controller Station set by one from CTL
(R187). -/
def State.heard (s : State) (src : Source) (f : List Byte) : State := (s.takeHanded (sourcePort src)).noteController src f

/-- The answer to a request: its Control Response offered on its port (R184), and what then stands first there and is a
request no row takes is answered too (log 3). -/
def State.answer (s : State) (src : Source) (f : List Byte) (op : Nat) (st : Status) (results : List Byte) : State :=
  ((s.respond src f (BitVec.ofNat 8 op) st results).1).serveUnassigned (sourcePort src)

/-- Such a request with the state its own rule finds and its parameters. -/
abbrev State.Takes (s : State) (src : Source) (op : Nat) (f : List Byte) (u : State) (p : List Byte) : Prop :=
  s.Permitted src op f ∧ u = s.heard src f ∧ p = requestParameters f

/-- A message of a kind stands first on a port whose Link is Up, its check value and length good. -/
abbrev State.Heard (s : State) (p : PortId) (kind : Nat) (f : List Byte) : Prop :=
  s.isUp p = true ∧ s.firstHanded p = some f ∧ frameKind f = kind ∧ envelopeOk f = true

end Sys2Proof.Machine
end

