-- ==== Sys2Proof/Certificates/Slice0/Obligations.lean ====
section
/-! DEFINITION. The statements for the provers, in the order of OBLIGATIONS.json. In a statement about a Control Request, `u` is
the part as the request's own rule finds it and `p` the request's parameters; `u.answer src f op st results` is `u` after the
response has been offered. -/

open Sys2Proof Sys2Proof.Machine

/-! ### The block, its reset and its laws -/

/-- A step takes the command at the front and runs it with the queue's rest; an empty queue idles (log 4). The idle step of
an empty queue is the model's choice (log 4). -/
def Obligations.StepRunsTheFrontCommand : Prop :=
  (∀ (c : Instr) (s : State), step (s.setPending (c :: s.pending)) = Sys2Proof.Machine.exec c s) ∧
  (∀ (c : Instr) (cs : List Instr) (s : State), step (s.setPending (c :: cs)) = Sys2Proof.Machine.exec c (s.setPending cs)) ∧
  (∀ s : State, s.pending = [] → step s = .next s)

/-- Every command answers a next state, and it leaves the queue of commands as it was. It covers all 86 rows of the table.
The queue is the task's own field. -/
def Obligations.EveryCommandCompletesAndKeepsTheQueue : Prop :=
  ∀ (c : Instr) (s : State), ∃ t : State, Sys2Proof.Machine.exec c s = .next t ∧ t.pending = s.pending

/-- The machine after reset holds what the spec states of power-on. That State.reset is a power-on is the model's choice
(log 5); values the spec does not state are not in it. -/
def Obligations.ResetHoldsThePowerOnValues : Prop :=
  State.reset.Fresh ∧ State.reset.pending = [] ∧ State.reset.resetHeld = false

/-- The laws that every step keeps hold right after reset. -/
def Obligations.LawsHoldAtReset : Prop :=
  State.reset.TimeLegal ∧ State.reset.CountersLegal ∧ State.reset.JournalLegal ∧ State.reset.TablesCanonical ∧
  State.reset.StationsApart ∧ State.reset.OneTillPerPort ∧ State.reset.BlocksWithinWindow ∧ State.reset.PoolLegal ∧
  State.reset.ReservesInRange ∧ State.reset.BlocksInOrder ∧ State.reset.LabelWorkLegal ∧ State.reset.ShelvesAgree ∧
  State.reset.StagesWithBatch

/-- Store Time stays a day of 0-65,535 and a millisecond of 0-86,399,999 (R1). -/
def Obligations.StepsKeepTimeLegal : Prop := ∀ s t : State, s.TimeLegal → step s = .next t → t.TimeLegal

/-- Event Counters and the Notice Number stay within 0-65,535 (R189, R190). -/
def Obligations.StepsKeepCountersLegal : Prop := ∀ s t : State, s.CountersLegal → step s = .next t → t.CountersLegal

/-- The journal stays within its ring, and its sequences stay 1 to 4,294,967,295 and consecutive, the newest one below Next
Sequence; while the Recovery Scan runs, those of the records it has kept, and no session is then past its Transfer Open (R72,
R84, R86, R145). What a held RESET may have left torn is not judged before its release: that a record may then stand torn is the
model's reading (log 14, log 16). -/
def Obligations.StepsKeepJournalLegal : Prop := ∀ s t : State, s.JournalLegal → step s = .next t → t.JournalLegal

/-- The keyed tables keep their form, and no station is held in both station tables (R22, R23). -/
def Obligations.StepsKeepStationsApart : Prop :=
  ∀ s t : State, s.TablesCanonical → s.StationsApart → step s = .next t → t.TablesCanonical ∧ t.StationsApart

/-- A port keeps at most one till Signed-On on it (R56, R57). -/
def Obligations.StepsKeepOneTillPerPort : Prop := ∀ s t : State, s.OneTillPerPort → step s = .next t → t.OneTillPerPort

/-- The outstanding Journal Blocks stay within the Window, and they run consecutively from the oldest record held: Block Numbers
and records follow on without a gap, 1 to 32 records each, up to Next Send, and outside Draining and Stopping there are none
(R141, R148, R150). -/
def Obligations.StepsKeepBlocksWithinWindow : Prop :=
  (∀ s t : State, s.BlocksWithinWindow → step s = .next t → t.BlocksWithinWindow) ∧
  (∀ s t : State, s.JournalLegal → s.BlocksInOrder → step s = .next t → t.BlocksInOrder)

/-- Each Queued label stands once in the Work Queue of its link and in no other, and a queue holds at most 512 labels, all of
them Queued; each Sent label stands once among its link's labels in flight, and only a Ready link has any; a label is Unassigned
exactly where it has no item (R92, R93, R99, R104). That the labels in flight are kept in the order of sending is the model's
own (log 39). -/
def Obligations.StepsKeepLabelWorkLegal : Prop :=
  ∀ s t : State, s.LabelWorkLegal → step s = .next t → t.LabelWorkLegal

/-- A label's Item Index and the Label List of its item agree, a list names each of its labels once and has at most four, no two
labels have one Label ID and no two items one code, and every item's Shelf Floor is the lowest known Shown Price among its
labels (R50, R51, R92, R94, R98). -/
def Obligations.StepsKeepShelvesAgree : Prop :=
  ∀ s t : State, s.ShelvesAgree → step s = .next t → t.ShelvesAgree

/-- An item carries a Staged Price only while there is a Batch Record, and, while a sweep runs, none below its Sweep Position;
every item has an Active Price or a Staged Price, and an index of 0-32,767 (R50, R121, R131, R136). -/
def Obligations.StepsKeepStagesWithBatch : Prop :=
  ∀ s t : State, s.StagesWithBatch → step s = .next t → t.StagesWithBatch

/-- The three properties of the Cell Pool hold at every moment: free cells and held cells make 8,192, guests hold no more than the
Guest cap, and the free cells cover both shortfalls, a shortfall being the reserve less the class's Cells In Use, and 0 at or
above it. The reserves and the cap stay within 0-2,048, 0-512 and 0-8,192, and are 1,024, 256 and 2,048 by default. A Guest cap of
0 admits no Guest frame, and a reserve of 0 leaves its class to compete as Bulk does (R34). -/
def Obligations.StepsKeepPoolLegal : Prop :=
  (∀ s t : State, s.PoolLegal → step s = .next t → t.PoolLegal) ∧
  (∀ s : State, s.PoolLegal → s.freeCells + (allClasses.map s.heldCells).sum = 8192 ∧
    s.heldCells .guest ≤ s.settings.queue.guestCap ∧
    (if s.heldCells .till < s.settings.queue.tillReserve then s.settings.queue.tillReserve - s.heldCells .till else 0) +
    (if s.heldCells .control < s.settings.queue.controlReserve then s.settings.queue.controlReserve - s.heldCells .control else 0)
      ≤ s.freeCells) ∧
  (∀ s t : State, s.ReservesInRange → step s = .next t → t.ReservesInRange) ∧
  (∀ s t : State, s.supplied = true → s.resetHeld = false → s.loading = true →
    Sys2Proof.Machine.exec (.configurationLoadEnd false) s = .next t → t.settings.queue.tillReserve = 1024 ∧
    t.settings.queue.controlReserve = 256 ∧ t.settings.queue.guestCap = 2048) ∧
  (∀ (s : State) (o : Origin) (bytes : List Byte) (targets : List PortId), s.settings.queue.guestCap = 0 → bytes ≠ [] →
    (s.admitFrame .guest o bytes targets).2.1 = .refused) ∧
  (∀ (s : State) (n : Nat), s.settings.queue.tillReserve = 0 → s.roomFor .till n = s.roomFor .bulk n) ∧
  (∀ (s : State) (n : Nat), s.settings.queue.controlReserve = 0 → s.roomFor .control n = s.roomFor .bulk n)

/-- Time Valid does not return to false except at power-on, and where the supply is lost, which stands for the start of the
next power-on (R3, log 15). LOSS_OF_SUPPLY clearing the state at once is the model's reading (log 15). -/
def Obligations.TimeValidFallsOnlyWithTheSupply : Prop :=
  ∀ (c : Instr) (s t : State), Sys2Proof.Machine.exec c s = .next t → s.clock.valid = true →
    (∀ straps, c ≠ .powerOn straps) → c ≠ .lossOfSupply → t.clock.valid = true

/-- Records leave the journal by acknowledgment, by a cut of the Recovery Scan and with the supply; every other command
leaves them, in their order, and can at most add to them (R72, R85, R87, R91). LOSS_OF_SUPPLY clearing the state at once is
the model's reading (log 15). -/
def Obligations.JournalLosesRecordsOnlyToAcksAndScans : Prop :=
  ∀ (c : Instr) (s t : State), Sys2Proof.Machine.exec c s = .next t → c ≠ .blockAck → (∀ d, c ≠ .recoveryScanStep d) →
    (∀ straps, c ≠ .powerOn straps) → c ≠ .lossOfSupply → s.journal.slots <+: t.journal.slots

/-! ### Admission and answers -/

/-- Admission (R36), outside Loading: which targets take a copy, when the frame is stored, what storing does, and which
drops are left to count. The number a stored frame's record takes is the model's own name for it (log 30). -/
def Obligations.AdmissionFollowsItsSteps : Prop :=
  ∀ (s : State) (c : OutClass) (o : Origin) (bytes : List Byte) (targets accepting : List PortId) (n : Nat),
    s.loading = false → targets.Nodup → n = (bytes.length + 127) / 128 →
    accepting = targets.filter (fun q => s.isUp q && decide ((s.queue q c).length < (s.settings.queue.limits[portIndex q]).get c)) →
    ((accepting = [] ∨ (c = .guest ∧ s.settings.queue.guestCap < s.pool.inUse.guest + n) ∨
        s.freeCells < n + shortfallSum s.settings.queue (s.pool.inUse.set c (s.pool.inUse.get c + n))) →
      (s.admitFrame c o bytes targets).1 = s ∧ (s.admitFrame c o bytes targets).2.1 = .refused ∧
      ((s.admitFrame c o bytes targets).2.2.count .cellDrop = if accepting = [] then 0 else 1)) ∧
    ((accepting ≠ [] ∧ (c = .guest → s.pool.inUse.guest + n ≤ s.settings.queue.guestCap) ∧
        n + shortfallSum s.settings.queue (s.pool.inUse.set c (s.pool.inUse.get c + n)) ≤ s.freeCells) →
      (s.admitFrame c o bytes targets).2.1 = .stored s.pool.nextRef ∧
      (s.admitFrame c o bytes targets).1.pool.frames.get? s.pool.nextRef = some ⟨c, accepting.length, o, bytes⟩ ∧
      (s.admitFrame c o bytes targets).1.pool.inUse = s.pool.inUse.set c (s.pool.inUse.get c + n) ∧
      (∀ q ∈ accepting, (s.admitFrame c o bytes targets).1.queue q c = s.queue q c ++ [s.pool.nextRef]) ∧
      (∀ q d, q ∉ accepting ∨ d ≠ c → (s.admitFrame c o bytes targets).1.queue q d = s.queue q d) ∧
      (s.admitFrame c o bytes targets).2.2.count .cellDrop = 0) ∧
    (s.admitFrame c o bytes targets).2.2.count .queueDrop = targets.length - accepting.length

/-- An answer only says something: it stores or drops frames, counts the drops, offers or marks notices, and may answer what
then stands first on the port and no row takes (log 3). Nothing else changes. A message that stands first and that a row takes is
left there; a request first in line with an operation number outside the table is answered Unknown (R183 step 1). That it is
answered in the step that uncovers it is the model's choice (log 3). -/
def Obligations.AnswersOnlySpeak : Prop :=
  (∀ (u : State) (src : Source) (f : List Byte) (op : Nat) (st : Status) (results : List Byte),
    Answered u (u.answer src f op st results)) ∧
  (∀ (u : State) (p : PortId), Answered u (u.serveUnassigned p)) ∧
  (∀ (u : State) (p : PortId), (∀ f, u.firstHanded p = some f →
      frameKind f ≠ 0x60 ∨ ∃ op ∈ operationNumbers, requestOperation f = some op) → u.serveUnassigned p = u) ∧
  (∀ (u : State) (src : Source) (f : List Byte) (op : Nat), u.isUp (sourcePort src) = true →
    u.firstHanded (sourcePort src) = some f → frameKind f = 0x60 → requestOperation f = some op → op ∉ operationNumbers →
    envelopeOk f = true →
    u.serveUnassigned (sourcePort src) = (u.takeHanded (sourcePort src)).answer src f op .unknown [])

/-- A Control Response carries the request's tag, its operation number, the status and the results of a Done; where its port
takes it and the pool has room, it joins that port's Control queue (R184, R204, R36). -/
def Obligations.ResponsesCarryTheRequest : Prop :=
  ∀ (u v : State) (src : Source) (f : List Byte) (op : Byte) (st : Status) (results frame : List Byte),
    u.loading = false → u.takesCopy .control (sourcePort src) = true →
    frame = buildMessage 0x61 (frameSource f) u.managementAddress (frameTag f)
      ([op] ++ be 1 (statusCode st) ++ (if st = .done then results else [])) →
    u.roomFor .control (cellsOf frame.length) = true → v = (u.respond src f op st results).1 →
    v.queue (sourcePort src) .control = u.queue (sourcePort src) .control ++ [u.pool.nextRef] ∧
    v.pool.frames.get? u.pool.nextRef = some ⟨.control, 1, .generated, frame⟩

/-- A row that finds nothing to take changes nothing: a request row or a message row where no message stands first on its port,
or one of another kind (log 2); a row whose time or condition has not come (log 1); a reset, a link or a transmission row that
finds its port or line so already; a restart that is not due (log 33). These are the model's own choices, not rules of the
spec. -/
def Obligations.RowsWithNothingToTakeChangeNothing : Prop :=
  (∀ (c : Instr) (src : Source) (op : Nat) (s : State), requestOf c = some (src, op) →
    (∀ f, s.firstHanded (sourcePort src) = some f → ¬ (frameKind f = 0x60 ∧ requestOperation f = some op)) →
    Sys2Proof.Machine.exec c s = .next s) ∧
  (∀ (c : Instr) (p : PortId) (kind : Nat) (s : State), messageOf c = some (p, kind) →
    (∀ f, s.firstHanded p = some f → frameKind f ≠ kind) → Sys2Proof.Machine.exec c s = .next s) ∧
  (∀ s : State, s.dailyDue .storeOpen = false → Sys2Proof.Machine.exec .storeOpen s = .next s) ∧
  (∀ s : State, s.dailyDue .storeClose = false → Sys2Proof.Machine.exec .storeClose s = .next s) ∧
  (∀ s : State, s.dailyDue .nightStart = false → Sys2Proof.Machine.exec .nightStart s = .next s) ∧
  (∀ s : State, s.dailyDue .nightEnd = false → Sys2Proof.Machine.exec .nightEnd s = .next s) ∧
  (∀ s : State, s.cutoverDue = false → Sys2Proof.Machine.exec .cutover s = .next s) ∧
  (∀ s : State, s.session.timer ≠ some 0 → Sys2Proof.Machine.exec .blockTimerExpiry s = .next s) ∧
  (∀ s : State, s.management.supervision.timer ≠ some 0 → Sys2Proof.Machine.exec .supervisionTimerExpiry s = .next s) ∧
  (∀ s : State, s.load.owner = none ∨ s.load.timer ≠ 0 → Sys2Proof.Machine.exec .loadTransactionLapse s = .next s) ∧
  (∀ s : State, s.loading = true ∨ s.settings.labels.external = true ∨ s.settings.labels.period = 0 ∨ s.pacer.timeLeft ≠ 0 →
    Sys2Proof.Machine.exec .pacerExpiry s = .next s) ∧
  (∀ s : State, s.loading = true ∨ s.settings.labels.external = false → Sys2Proof.Machine.exec .beaconInEdge s = .next s) ∧
  (∀ (s : State) (a : Station), (∀ e, s.addresses.get? a.toNat = some e → e.age ≠ 0) →
    Sys2Proof.Machine.exec (.addressAgeExpiry a) s = .next s) ∧
  (∀ (s : State) (k : Nat), (∀ g, s.guests.table.get? k = some g → g.state ≠ .pending 0) →
    Sys2Proof.Machine.exec (.pendingTimeout k) s = .next s) ∧
  (∀ (s : State) (k : Nat), (∀ g e, s.guests.table.get? k = some g → g.state = .admitted (some e) ∨ g.state = .throttled (some e) →
      Moment.le e s.clock.now = false) → Sys2Proof.Machine.exec (.guestExpiry k) s = .next s) ∧
  (∀ (s : State) (k : Nat), (∀ g h, s.guests.table.get? k = some g → g.state = .expired h → Moment.le h s.clock.now = false) →
    Sys2Proof.Machine.exec (.holdUntilReached k) s = .next s) ∧
  (∀ (s : State) (i : Nat), (∀ lab price count, s.labels.get? i = some lab → lab.state = .sent price count →
      (s.pacer.count + 4294967296 - count) % 4294967296 ≠ 4) → Sys2Proof.Machine.exec (.labelDeadline i) s = .next s) ∧
  (∀ (s : State) (l : LinkId), s.superframeAtHand = false ∨ (s.link l).state ≠ .ready ∨ (s.link l).missed ≠ 3 →
    Sys2Proof.Machine.exec (.linkSilence l) s = .next s) ∧
  (∀ (s : State) (l : LinkId), 512 ≤ (s.link l).queue.length ∨
      (∀ kv ∈ s.labels, kv.2.link = l → kv.2.state = .stale → s.activeFor kv.2 = none) →
    Sys2Proof.Machine.exec (.staleScanStep l) s = .next s) ∧
  (∀ (s : State) (damaged : Option Slot), s.journal.scan = none →
    Sys2Proof.Machine.exec (.recoveryScanStep damaged) s = .next s) ∧
  (∀ s : State, (∀ b, s.batch = some b → b.state ≠ .cutting) → Sys2Proof.Machine.exec .cutoverSweepStep s = .next s) ∧
  (∀ s : State, (∀ b, s.batch = some b → b.state ≠ .withdrawing) → Sys2Proof.Machine.exec .withdrawSweepStep s = .next s) ∧
  (∀ s : State, s.guests.sweep = none → Sys2Proof.Machine.exec .closingSweepStep s = .next s) ∧
  (∀ s : State, s.session.releaseNotice = false ∨ (s.session.state ≠ .draining ∧ s.session.state ≠ .stopping) →
    Sys2Proof.Machine.exec .waitingBlockReoffer s = .next s) ∧
  (∀ (s : State) (written : Bool), s.management.saving = none → Sys2Proof.Machine.exec (.saveEnd written) s = .next s) ∧
  (∀ (s : State) (straps : BitVec 4) (torn : Option Slot), s.management.restart ≠ some ⟨.full, none⟩ →
    Sys2Proof.Machine.exec (.fullRestart straps torn) s = .next s) ∧
  (∀ (s : State) (torn : Option Slot), s.management.restart ≠ some ⟨.soft, none⟩ →
    Sys2Proof.Machine.exec (.softRestart torn) s = .next s) ∧
  (∀ (s : State) (answered : Bool), s.supplied = false ∨ s.resetHeld = true ∨ s.loading = false →
    Sys2Proof.Machine.exec (.configurationLoadEnd answered) s = .next s) ∧
  (∀ (s : State) (torn : Option Slot), s.resetHeld = true → Sys2Proof.Machine.exec (.resetAssert torn) s = .next s) ∧
  (∀ (s : State) (p : PortId), s.isUp p = true ∨ s.supplied = false → Sys2Proof.Machine.exec (.linkUp p) s = .next s) ∧
  (∀ (s : State) (p : PortId), s.isUp p = false → Sys2Proof.Machine.exec (.linkDown p) s = .next s) ∧
  (∀ (s : State) (p : PortId), s.isUp p = false ∨ (s.port p).sending.isSome = true →
    Sys2Proof.Machine.exec (.transmitStart p) s = .next s) ∧
  (∀ (s : State) (p : PortId), (s.port p).sending = none → Sys2Proof.Machine.exec (.transmitComplete p) s = .next s)

/-- While the Remote Write Bar is set and the controller is Present, a write of head office is answered Barred and has no other
effect of its own; every other request passes step 2 (R183, R185). The answer leaves the port's next message first, and that
the requests then first that no row takes are answered in the same step is the model's choice (log 3). -/
def Obligations.RemoteWriteBarRefusesHeadOfficeWrites : Prop :=
  (∀ (c : Instr) (op : Nat) (s : State) (f : List Byte), requestOf c = some (.headOffice, op) → s.Asked .headOffice op f →
    s.settings.management.writeBar = true → s.management.supervision.present = true → op ∉ readOperations →
    Sys2Proof.Machine.exec c s = .next ((s.takeHanded .up).answer .headOffice f op .barred [])) ∧
  (∀ (src : Source) (op : Nat) (s : State) (f : List Byte), s.Asked src op f →
    src = .controller ∨ s.settings.management.writeBar = false ∨ s.management.supervision.present = false ∨ op ∈ readOperations →
    sourceRefusal src op (requestParameters f) = none → s.Permitted src op f)

/-- A request with a bad check value or length is counted alone and not answered; head office's Heartbeat is answered State,
and its Queue Settings Write of a controller-only setting Barred, where the bar does not refuse it (R183, R186, R187). That the
entries a body carries whole alone are looked at is the model's choice (log 64). What then stands first and no row takes is
answered in the same step (log 3). -/
def Obligations.RequestsFailingStepsBAndThree : Prop :=
  (∀ (c : Instr) (src : Source) (op : Nat) (s : State) (f : List Byte), requestOf c = some (src, op) →
    s.isUp (sourcePort src) = true → s.firstHanded (sourcePort src) = some f → frameKind f = 0x60 →
    requestOperation f = some op → envelopeOk f = false →
    Sys2Proof.Machine.exec c s = .next (((s.takeHanded (sourcePort src)).managementError).serveUnassigned (sourcePort src))) ∧
  (∀ (s : State) (f : List Byte), s.Asked .headOffice 112 f → s.barRefuses .headOffice 112 = false →
    Sys2Proof.Machine.exec (.heartbeat .headOffice) s = .next ((s.takeHanded .up).answer .headOffice f 112 .state [])) ∧
  (∀ (s : State) (f : List Byte) (e : List Byte), s.Asked .headOffice 82 f → s.barRefuses .headOffice 82 = false →
    e ∈ settingEntries (requestParameters f) → fieldAt e 0 1 ∈ controllerOnlyCodes →
    Sys2Proof.Machine.exec (.queueSettingsWrite .headOffice) s =
      .next ((s.takeHanded .up).answer .headOffice f 82 .barred []))

/-! ### Resets, the image and the restarts -/

/-- Power-on gives every block its power-on values, samples the straps and keeps the flash; a loss of supply leaves nothing of
the part but the flash, every other field standing at its power-on value (R196, R198, R201, log 15). That LOSS_OF_SUPPLY puts
the part in an inert state of power-on values, the straps last sampled and the level of RESET with them, is the model's choice
(log 15). -/
def Obligations.PowerOnGivesFreshState : Prop :=
  (∀ (straps : BitVec 4) (s : State), ∃ t : State, Sys2Proof.Machine.exec (.powerOn straps) s = .next t ∧ t.Fresh ∧
    t.management.strap = straps ∧ t.management.flash = s.management.flash ∧ t.resetHeld = s.resetHeld) ∧
  (∀ s : State, ∃ t : State, Sys2Proof.Machine.exec .lossOfSupply s = .next t ∧ t.supplied = false ∧
    State.Fresh { t with supplied := true } ∧ t.management.flash = s.management.flash ∧
    t.management.strap = s.management.strap ∧ t.resetHeld = s.resetHeld ∧ t.pending = s.pending)

/-- The fall of RESET, its release and a due Full Restart clear the blocks, keep Store Time, the journal, the links and the
flash, and set their own cause flag; of the session the Open Tag and the Last Outcome alone are left, of the pacer nothing, of
the guests' counts the Closing Number; where they take the store from Trading to Closed the Closing Sweep starts afresh, and the
release leaves the sweep that the fall started; the journal may hold a slot a reset cut short, none while the Recovery Scan runs
or the image is Loading (R12, R81, R90, R91, R120, R164, R182, R194, R196). Taking the reset values at the fall (log 14), which
slot a reset cuts short and what its store had moved (log 16), the drop of messages handed on (log 28), and that a slot due
before the reset goes unfired (log 65) are the model's choices. -/
def Obligations.PinResetAndFullRestartClearTheBlocks : Prop :=
  (∀ (torn : Option Slot) (s : State), s.supplied = true → s.resetHeld = false →
    ∃ t : State, Sys2Proof.Machine.exec (.resetAssert torn) s = .next t ∧
    s.Cleared t ∧ t.resetHeld = true ∧ t.journal.slots = (s.tornJournal torn).slots ∧ s.journal.slots <+: t.journal.slots ∧
    (s.loading = true ∨ s.journal.scan.isSome = true → t.journal.slots = s.journal.slots) ∧
    t.journal.head = s.journal.head ∧ t.journal.scan = none ∧ t.management.causes = s.management.causes ∧
    t.guests.sweep = (if s.mode = .trading then some 0 else none)) ∧
  (∀ (straps : BitVec 4) (s : State), s.supplied = true → ∃ t : State, Sys2Proof.Machine.exec (.pinReset straps) s = .next t ∧
    s.Cleared t ∧ t.resetHeld = false ∧ t.journal.slots = s.journal.slots ∧ t.journal.head = s.journal.head ∧
    t.journal.nextSequence = s.journal.nextSequence ∧ t.journal.overflowMark = none ∧
    t.journal.scan = (if s.journal.slots = [] then none else some 0) ∧ t.journal.messageErrors = 0 ∧
    t.management.causes = { s.management.causes with pin := true } ∧ t.management.strap = straps ∧
    t.guests.sweep = (if s.mode = .trading then some 0 else if s.resetHeld then s.guests.sweep else none)) ∧
  (∀ (straps : BitVec 4) (torn : Option Slot) (s : State), s.management.restart = some ⟨.full, none⟩ →
    ∃ t : State, Sys2Proof.Machine.exec (.fullRestart straps torn) s = .next t ∧
    s.Cleared t ∧ t.journal.slots = (s.tornJournal torn).slots ∧ s.journal.slots <+: t.journal.slots ∧
    (s.loading = true ∨ s.journal.scan.isSome = true → t.journal.slots = s.journal.slots) ∧
    t.journal.head = s.journal.head ∧ t.journal.overflowMark = none ∧
    t.journal.scan = (if t.journal.slots = [] then none else some 0) ∧
    t.management.causes = { s.management.causes with full := true } ∧ t.management.strap = straps ∧
    (s.resetHeld = false → t.guests.sweep = (if s.mode = .trading then some 0 else none)))

/-- A due Soft Restart keeps the items, the prices' schedule, the settings, the Store Mode, Store Time, the Event Counters, the
ports' counts, the superframe count, the tills' Last fields and the journal's records, Head and Next Sequence, but for a record
that was being written, which may stand torn behind them; it signs every till off, ends the load, the session and an Open batch,
makes the controller Present, restarts the Supervision Timer at the heartbeat period, and empties the station tables, the Cell
Pool and the queues, in which afterwards only the Event Notices of what it counts or finds owed stand; Notice Owed marks are
kept unless the controller becomes Present by it and CTL is Up, which offers them all. The Label Table is kept with each Sent
label Queued; the Work Queues are rebuilt in index order up to 512, the labels beyond becoming Stale with LABEL-STALE counted;
the links are Off, or Silent or Faulted where superframes can start (R11, R12, R14, R25, R49, R71, R91, R120, R139, R164, R182,
R189, R190, R194, R201). Which slot a restart cuts short is an operand, and that Next Sequence has risen with it the model's
choice (log 16); handed-on messages are dropped (log 28); when owed notices are offered is log 13, and the order of what the
blocks and the two links count is the model's choice (logs 45 and 53), and so is Time Left 1 where the pacer does not run (log
6). -/
def Obligations.SoftRestartKeepsTheTables : Prop :=
  ∀ (torn : Option Slot) (s : State), s.management.restart = some ⟨.soft, none⟩ →
    ∃ t : State, Sys2Proof.Machine.exec (.softRestart torn) s = .next t ∧
    t.clock = s.clock ∧ t.mode = s.mode ∧ t.settings = s.settings ∧ t.items = s.items ∧
    t.schedule.times = s.schedule.times ∧ t.lastVerdict = s.lastVerdict ∧ t.priceErrors = s.priceErrors ∧
    t.tills = s.tills.mapRecords (fun x => { x with port := none }) ∧
    t.addresses = [] ∧ t.handed = [] ∧ t.guests.table = [] ∧ t.guests.sweep = none ∧
    t.guests.closingNumber = s.guests.closingNumber ∧ t.load.owner = none ∧ t.load.parts = s.load.parts ∧
    t.load.applied = s.load.applied ∧ t.load.refused = s.load.refused ∧
    t.journal.slots = (s.tornJournal torn).slots ∧ t.journal.messageErrors = s.journal.messageErrors ∧
    t.journal.head = s.journal.head ∧ s.journal.slots <+: t.journal.slots ∧
    (∀ x q, torn = some x → s.journal.nextSequence = some q → s.loading = false → s.journal.scan = none →
      s.journal.slots.length < 16384 → t.journal.slots = s.journal.slots ++ [x] ∧
      t.journal.nextSequence = if q < 4294967295 then some (q + 1) else none) ∧
    (torn = none ∨ s.journal.nextSequence = none ∨ s.loading = true ∨ s.journal.scan.isSome = true ∨
      16384 ≤ s.journal.slots.length →
      t.journal.slots = s.journal.slots ∧ t.journal.nextSequence = s.journal.nextSequence) ∧
    t.journal.overflowMark = none ∧ t.journal.scan = (if t.journal.slots = [] then none else some 0) ∧
    s.SessionEnded t ∧ t.session.messageErrors = s.session.messageErrors ∧ t.session.outOfPlace = s.session.outOfPlace ∧
    t.guests.upDrops = s.guests.upDrops ∧ t.guests.downDrops = s.guests.downDrops ∧ t.guests.reclaims = s.guests.reclaims ∧
    (∀ b, s.batch = some b → b.state = .receiving → t.batch = some { b with state := .withdrawing, position := 0 } ∧
      t.schedule.inhibit = false ∧ t.schedule.cutover = none ∧
      t.counter .batchDiscarded = min (s.counter .batchDiscarded + 1) 65535) ∧
    ((∀ b, s.batch = some b → b.state ≠ .receiving) → t.batch = s.batch ∧ t.schedule = s.schedule ∧
      t.counter .batchDiscarded = s.counter .batchDiscarded) ∧
    t.management.causes = { s.management.causes with soft := true } ∧ t.management.restart = none ∧
    t.management.supervision.present = true ∧ t.management.supervision.station = s.management.supervision.station ∧
    t.management.supervision.timer = (if s.settings.management.heartbeat = 0 then none
      else some (1000 * s.settings.management.heartbeat)) ∧
    t.management.image = (if s.management.saving.isSome then .bad else s.management.image) ∧
    (∀ p, t.port p = { s.port p with queues := (t.port p).queues, sending := none, drr := ⟨false, false, 0, 0⟩ }) ∧
    (∀ p c, p ≠ .ctl ∨ c ≠ .control → t.queue p c = []) ∧
    (s.isUp .ctl = false → t.queue .ctl .control = [] ∧ t.pool = ⟨[], 0, ⟨0, 0, 0, 0, 0⟩, 3072000⟩) ∧
    t.pool.bucket = 3072000 ∧ (∀ c, c ≠ .control → t.pool.inUse.get c = 0) ∧
    (∀ kv ∈ t.pool.frames, kv.2.cls = .control ∧ kv.2.origin = .generated) ∧
    (∀ k, k ∉ [EventKind.batchDiscarded, .labelStale, .linkFault, .cellDrop, .queueDrop] → t.counter k = s.counter k) ∧
    (∀ k, min (s.counter k) 65535 ≤ t.counter k) ∧
    (s.isUp .ctl = false → ∀ k, k ∉ [EventKind.batchDiscarded, .labelStale, .linkFault] → t.isOwed k = s.isOwed k) ∧
    (s.isUp .ctl = true → s.loading = false →
      (s.management.supervision.present = true → ∀ k, t.isOwed k = s.isOwed k) ∧
      (s.management.supervision.present = false → ∀ k, t.isOwed k = false)) ∧
    t.pacer = { s.pacer with remainder := 0, timeLeft := 1, oncePending := false, window := [] } ∧
    (∀ l, (t.link l).sentOrder = [] ∧ (t.link l).missed = 0 ∧ (t.link l).scanPosition = 0 ∧
      (t.link l).checkErrors = (s.link l).checkErrors ∧
      (t.link l).state = (if t.superframesCanStart = true ∧ s.isUp (.b l) = true then
        (if s.settings.labels.faultThreshold ≤ (s.link l).checkErrors then .faulted else .silent) else .off)) ∧
    (∀ work : LinkId → List Nat, Table.wf s.labels →
      (∀ l, work l = (s.labels.filter (fun kv => decide (kv.2.link = l) && kv.2.state.inWork)).map Prod.fst) →
      (∀ l, (t.link l).queue = (work l).take 512) ∧
      t.counter .labelStale = (if (work .b0).length ≤ 512 ∧ (work .b1).length ≤ 512 then s.counter .labelStale
        else min (s.counter .labelStale + ((work .b0).length - 512) + ((work .b1).length - 512)) 65535) ∧
      (∀ i lab, s.labels.get? i = some lab →
        (lab.state.inWork = false → t.labels.get? i = some lab) ∧
        (lab.state.inWork = true → t.labels.get? i = some { lab with
          state := if i ∈ (work lab.link).take 512 then .queued else .stale })))

/-- When a load ends, the settings and the daily times come from a stored image that holds, else from the built-in defaults; an
image holds where it carries the format mark, its check value holds and every setting lies within its range, the daily times
being no two equal and the head-office station not the management station address; the daily slots are settled where Time Valid
is true, a slot whose time is reached taking the day as its Fired Day and its action not taken; the store hours are evaluated by
the table of R12, the Supervision Timer and the pacer start, and an Off link whose port is Up leaves Off where superframes can
start, for Silent or, at the fault threshold, for Faulted with LINK-FAULT counted; a Bad image counts CONFIG-BAD (R11, R12,
R105, R107, R109, R188, R197). The flash as a record and its answer as an operand are the model's form (log 27); the order of
what the links and the image count is the model's choice (logs 45 and 53), and so is the missed-beacon count 0 of a link that
enters Faulted (log 67). -/
def Obligations.LoadEndTakesTheImage : Prop :=
  (∀ (answered good : Bool) (c : ImageContents) (s : State), s.supplied = true → s.resetHeld = false → s.loading = true →
    good = (answered && s.imageHolds) → c = (if good then s.management.flash.contents else ⟨defaultSettings, defaultTimes⟩) →
    ∃ t : State, Sys2Proof.Machine.exec (.configurationLoadEnd answered) s = .next t ∧
    t.management.image = (if good then .good else .bad) ∧ t.settings = c.settings ∧ t.schedule.times = c.times ∧
    t.clock = s.clock ∧
    t.mode = (if s.clock.valid then hoursMode c.times.storeOpen c.times.storeClose s.clock.now.ms else .closed) ∧
    t.management.supervision.timer =
      (if c.settings.management.heartbeat = 0 then none else some (1000 * c.settings.management.heartbeat)) ∧
    t.journal = s.journal ∧ t.items = s.items ∧ t.tills = s.tills ∧
    (∀ n x, (t.schedule.daily n).time = some x → (t.schedule.daily n).firedDay =
      if s.clock.valid = true ∧ x ≤ s.clock.now.ms then some s.clock.now.day else (s.schedule.daily n).firedDay) ∧
    (∀ n, (t.schedule.daily n).time = none → (t.schedule.daily n).firedDay = (s.schedule.daily n).firedDay) ∧
    t.schedule.cutover = s.schedule.cutover ∧ t.schedule.inhibit = s.schedule.inhibit ∧ t.session = s.session ∧
    t.pacer = { s.pacer with timeLeft :=
      if c.settings.labels.external = false ∧ c.settings.labels.period ≠ 0 then 1 else s.pacer.timeLeft } ∧
    (∀ leaves : LinkId → Bool, (∀ l, leaves l = (decide ((s.link l).state = .off) && s.isUp (.b l) &&
        (c.settings.labels.external || decide (c.settings.labels.period ≠ 0)))) →
      (∀ l, leaves l = false → t.link l = s.link l) ∧
      (∀ l, leaves l = true → t.link l = { s.link l with
        missed := 0, state := if c.settings.labels.faultThreshold ≤ (s.link l).checkErrors then .faulted else .silent }) ∧
      (∀ n, n = [LinkId.b0, .b1].countP
          (fun l => leaves l && decide (c.settings.labels.faultThreshold ≤ (s.link l).checkErrors)) →
        t.counter .linkFault = if n = 0 then s.counter .linkFault else min (s.counter .linkFault + n) 65535)) ∧
    t.counter .configBad = if good then s.counter .configBad else min (s.counter .configBad + 1) 65535) ∧
  -- The store hours (R12).
  (∀ ms o c : Nat, hoursMode none none ms = .trading ∧ hoursMode (some o) none ms = .trading ∧
    hoursMode none (some c) ms = .closed ∧
    (o < c → hoursMode (some o) (some c) ms = if o ≤ ms ∧ ms < c then .trading else .closed) ∧
    (c < o → hoursMode (some o) (some c) ms = if o ≤ ms ∨ ms < c then .trading else .closed)) ∧
  -- When a stored image holds (R197): its mark, its check value, and every setting within its range.
  (∀ (s : State) (x : Settings) (h : DailyTimes) (times : List Nat), s.management.flash.contents = ⟨x, h⟩ →
    times = [h.storeOpen, h.storeClose, h.nightStart, h.nightEnd].filterMap id →
    (s.imageHolds = true ↔ s.management.flash.formatMark = true ∧ s.management.flash.checkHolds = true ∧
      (∀ a b, (a, b) ∈ [(Zone.guest, Zone.till), (.guest, .label), (.guest, .guest), (.till, .guest), (.label, .guest)] →
        x.queue.matrix[matrixIndex a b] = false) ∧
      (∀ (i : Fin 24) (c : OutClass), 1 ≤ x.queue.limits[i].get c ∧ x.queue.limits[i].get c ≤ 1024) ∧
      x.queue.tillReserve ≤ 2048 ∧ x.queue.controlReserve ≤ 512 ∧ x.queue.guestCap ≤ 8192 ∧
      (∀ w ∈ [x.queue.dayBulk, x.queue.dayGuest, x.queue.nightBulk, x.queue.nightGuest], 1 ≤ w ∧ w ≤ 15) ∧
      (x.queue.shaperRate = 0 ∨ (8000 ≤ x.queue.shaperRate ∧ x.queue.shaperRate ≤ 125000000)) ∧
      10 ≤ x.queue.ageTime ∧ x.queue.ageTime ≤ 3600 ∧
      (x.labels.period = 0 ∨ (16 ≤ x.labels.period ∧ x.labels.period ≤ 16383)) ∧ x.labels.max ≤ 65535 ∧
      1 ≤ x.labels.slotBudget ∧ x.labels.slotBudget ≤ 16 ∧ 1 ≤ x.labels.faultThreshold ∧ x.labels.faultThreshold ≤ 65535 ∧
      (x.guest.duration = 0 ∨ (60 ≤ x.guest.duration ∧ x.guest.duration ≤ 604800)) ∧ x.guest.upBudget ≤ 4294967295 ∧
      x.guest.downBudget ≤ 4294967295 ∧ (x.guest.rate = 0 ∨ (1000 ≤ x.guest.rate ∧ x.guest.rate ≤ 12500000)) ∧
      1000 ≤ x.guest.floor ∧ x.guest.floor ≤ 12500000 ∧ 30 ≤ x.guest.hold ∧ x.guest.hold ≤ 3600 ∧
      x.management.branch ≤ 65535 ∧ x.management.heartbeat ≤ 255 ∧
      (∀ a, x.management.headOffice = some a ∨ x.management.override = some a → isGroup a = false) ∧
      (∀ a, x.management.headOffice = some a →
        a ≠ x.management.override.getD (0x02A7316C0FE0#48 ||| s.management.strap.setWidth 48)) ∧
      1 ≤ x.highMark ∧ x.highMark ≤ 16384 ∧ 1 ≤ x.loadTimer ∧ x.loadTimer ≤ 255 ∧ 1 ≤ x.windowLimit ∧ x.windowLimit ≤ 4 ∧
      1 ≤ x.blockTimer ∧ x.blockTimer ≤ 60 ∧ (∀ t ∈ times, t < 86400000) ∧ times.Nodup))

/-- Save Configuration captures the settings and marks the stored image invalid while it writes; a save written leaves the
image Good with what was captured, and one not written leaves it Bad with CONFIG-BAD counted. A Restart sets its mark and
waits for its response's copy where the response was stored, and is due at once where it was refused; a second one is Busy,
and another kind Range (R195, R197, R198). That the stored image is marked invalid when the save starts is the model's choice
(log 27), and so are the answer to what then stands first (log 3) and Range before Busy for a Restart of another kind while one is
pending (log 56). -/
def Obligations.SaveAndRestartRequests : Prop :=
  (∀ (s u : State) (src : Source) (f p : List Byte), s.Takes src 113 f u p →
    u.management.image = .good ∨ u.management.image = .bad →
    Sys2Proof.Machine.exec (.saveConfiguration src) s = .next (State.answer
      { u with management := { u.management with
        image := .saving, saving := some ⟨u.settings, u.schedule.times⟩
        flash := { u.management.flash with formatMark := false, checkHolds := false } } } src f 113 .done [])) ∧
  (∀ (s u : State) (src : Source) (f p : List Byte), s.Takes src 113 f u p → u.management.image = .saving →
    Sys2Proof.Machine.exec (.saveConfiguration src) s = .next (u.answer src f 113 .busy [])) ∧
  (∀ (s : State) (c : ImageContents), s.management.saving = some c →
    Sys2Proof.Machine.exec (.saveEnd true) s = .next { s with management := { s.management with
      image := .good, saving := none, flash := ⟨true, true, c⟩ } }) ∧
  (∀ (s : State) (c : ImageContents), s.management.saving = some c →
    ∃ t : State, Sys2Proof.Machine.exec (.saveEnd false) s = .next t ∧
    Spoken (State.raise { s with management := { s.management with image := .bad, saving := none } } .configBad 1) t) ∧
  (∀ (s u : State) (src : Source) (f p : List Byte) (k : RestartKind) (v : State × Admission), s.Takes src 114 f u p →
    1 ≤ p.length → fieldAt p 0 1 = (if k = .soft then 0 else 1) → u.management.restart = none →
    v = State.respond { u with management := { u.management with restart := some ⟨k, none⟩ } } src f 114#8 .done [] →
    v.1.management.restart = some ⟨k, none⟩ ∧
    (∀ ref, v.2 = .stored ref →
      Sys2Proof.Machine.exec (.restart src) s = .next (State.serveUnassigned { v.1 with management := { v.1.management with
        restart := some ⟨k, some ref⟩ } } (sourcePort src))) ∧
    (v.2 = .refused → Sys2Proof.Machine.exec (.restart src) s = .next (v.1.serveUnassigned (sourcePort src)))) ∧
  (∀ (s u : State) (src : Source) (f p : List Byte), s.Takes src 114 f u p → 1 ≤ p.length → fieldAt p 0 1 ≤ 1 →
    u.management.restart.isSome = true →
    Sys2Proof.Machine.exec (.restart src) s = .next (u.answer src f 114 .busy [])) ∧
  (∀ (s u : State) (src : Source) (f p : List Byte), s.Takes src 114 f u p → 1 ≤ p.length → 2 ≤ fieldAt p 0 1 →
    Sys2Proof.Machine.exec (.restart src) s = .next (u.answer src f 114 .range []))

/-! ### Time -/

/-- A millisecond derived from REFCLK advances Store Time with the rollover and the wrap, leaves Time Valid, and counts down
what runs: the Supervision Timer, the load's Timer, the session's block timer, the pacer's Time Left (held while Loading),
each address's Age Remaining and each Pending Left; it refills the shaper's bucket and the guests' buckets, which a rate of 0
holds full (R1, R2, R24, R46, R109, R169, R174). That what is left due is taken first within the advance is the model's choice
(log 1). -/
def Obligations.MillisecondAdvancesStoreTime : Prop :=
  ∀ s : State, ∃ t : State, Sys2Proof.Machine.exec .millisecondAdvance s = .next t ∧ t.clock.valid = s.clock.valid ∧
    (s.clock.now.ms < 86399999 → t.clock.now = ⟨s.clock.now.day, s.clock.now.ms + 1⟩) ∧
    (s.clock.now.ms = 86399999 → s.clock.now.day < 65535 → t.clock.now = ⟨s.clock.now.day + 1, 0⟩) ∧
    (s.clock.now.ms = 86399999 → s.clock.now.day = 65535 → t.clock.now = ⟨0, 0⟩) ∧
    (∀ n, s.management.supervision.timer = some (n + 1) → t.management.supervision.timer = some n) ∧
    t.pool.bucket = (if s.settings.queue.shaperRate = 0 then 3072000
      else min (s.pool.bucket + s.settings.queue.shaperRate) 3072000) ∧
    (∀ r, s.load.owner = some r → 0 < s.load.timer → s.load.phase + 1 < 1000 →
      t.load = { s.load with phase := s.load.phase + 1 }) ∧
    (∀ r, s.load.owner = some r → 0 < s.load.timer → 1000 ≤ s.load.phase + 1 →
      t.load = { s.load with timer := s.load.timer - 1, phase := 0 }) ∧
    (∀ n, s.session.timer = some (n + 1) → s.dailyDue .nightStart = false → s.dailyDue .nightEnd = false →
      s.openDue = false → t.session = { s.session with timer := some n }) ∧
    (∀ n, s.pacerRuns = true → s.loading = false → s.pacer.oncePending = false → s.pacer.timeLeft = n + 1 →
      t.pacer = { s.pacer with timeLeft := n }) ∧
    (s.pacerRuns = true → s.loading = false → s.pacer.oncePending = false → s.pacer.timeLeft = 0 →
      t.pacer.timeLeft = (s.settings.labels.period + s.pacer.remainder) / 16 - 1 ∧
      t.pacer.remainder = (s.settings.labels.period + s.pacer.remainder) % 16 ∧
      t.pacer.count = (s.pacer.count + 1) % 4294967296) ∧
    (s.loading = true → t.pacer = s.pacer) ∧
    t.addresses = (s.addresses.filter (fun kv => decide (kv.2.age ≠ 0))).map (fun kv => (kv.1,
      if kv.2.phase + 1 < 1000 then { kv.2 with phase := kv.2.phase + 1 }
      else { kv.2 with age := kv.2.age - 1, phase := 0 })) ∧
    (∀ k g left r, s.guests.table.get? k = some g → g.state = .pending (left + 1) → r = s.settings.guest.floor →
      t.guests.table.get? k = some { g with
        state := .pending left
        upBucket := if r = 0 then 3072000 else min (g.upBucket + r) 3072000
        downBucket := if r = 0 then 3072000 else min (g.downBucket + r) 3072000 }) ∧
    (∀ k g e, s.guests.table.get? k = some g → g.state = .admitted e ∨ g.state = .throttled e →
      (∀ m, e = some m → Moment.le m s.clock.now = false) →
      t.guests.table.get? k = some { g with
        upBucket := if g.rate = 0 then 3072000 else min (g.upBucket + g.rate) 3072000
        downBucket := if g.rate = 0 then 3072000 else min (g.downBucket + g.rate) 3072000 }) ∧
    (∀ k g, s.guests.table.get? k = some g → g.state = .barred → t.guests.table.get? k = some g)

/-- A daily slot is due where Time Valid is true, the image is not Loading, its time is present and at or before the current
millisecond of day, and its Fired Day is not today; CUTOVER is due where Time Valid is true, the image is not Loading, the
inhibit is clear and its moment is present and reached. A due daily slot takes the current day as its Fired Day, the other slots
kept, and hands on its action, once: it is then due no more. STORE-OPEN and STORE-CLOSE set Store Mode, a change to Closed
starting the Closing Sweep, and NIGHT-START starts a Night session where none is active. A due CUTOVER disarms its slot, so that
it too fires once, and cuts an Armed batch over (R7, R9, R10, R12, R130, R143). -/
def Obligations.DueSlotsFire : Prop :=
  (∀ s : State, s.dailyDue .storeOpen = true →
    Sys2Proof.Machine.exec .storeOpen s = .next ((s.markFired .storeOpen).setMode .trading)) ∧
  (∀ s : State, s.dailyDue .storeClose = true → s.mode = .trading →
    Sys2Proof.Machine.exec .storeClose s = .next { (s.markFired .storeClose).setMode .closed with
      guests := { s.guests with closingNumber := wrap16 s.guests.closingNumber, sweep := some 0 } }) ∧
  (∀ s : State, s.dailyDue .storeClose = true → s.mode = .closed →
    Sys2Proof.Machine.exec .storeClose s = .next (s.markFired .storeClose)) ∧
  (∀ s : State, s.dailyDue .nightStart = true → s.session.state.active = true →
    Sys2Proof.Machine.exec .nightStart s = .next (s.markFired .nightStart)) ∧
  (∀ s : State, s.dailyDue .nightStart = true → s.session.state.active = false →
    ∃ t : State, Sys2Proof.Machine.exec .nightStart s = .next t ∧ t = { s.markFired .nightStart with session := t.session } ∧
    t.session.type = some .night ∧ t.session.state = .opening ∧ t.session.openTag = wrap16 s.session.openTag) ∧
  (∀ s : State, s.cutoverDue = true → (∀ b, s.batch = some b → b.state ≠ .armed) →
    Sys2Proof.Machine.exec .cutover s = .next { s with schedule := { s.schedule with cutover := none } }) ∧
  (∀ (s : State) (b : Batch), s.cutoverDue = true → s.batch = some b → b.state = .armed →
    Sys2Proof.Machine.exec .cutover s = .next { s with
      schedule := { s.schedule with cutover := none }
      batch := some { b with state := .cutting, position := 0 } }) ∧
  -- When a slot is due (R7, R9), what its firing marks, and that it fires once.
  (∀ (s : State) (n : DailyName), s.dailyDue n = true ↔ s.clock.valid = true ∧ s.management.image ≠ .loading ∧
    ∃ x, (s.schedule.daily n).time = some x ∧ x ≤ s.clock.now.ms ∧ (s.schedule.daily n).firedDay ≠ some s.clock.now.day) ∧
  (∀ s : State, s.cutoverDue = true ↔ s.clock.valid = true ∧ s.management.image ≠ .loading ∧ s.schedule.inhibit = false ∧
    ∃ m, s.schedule.cutover = some m ∧
      (m.day < s.clock.now.day ∨ (m.day = s.clock.now.day ∧ m.ms ≤ s.clock.now.ms))) ∧
  (∀ (s : State) (n : DailyName), s.markFired n = { s with
    schedule := s.schedule.setDaily n ⟨(s.schedule.daily n).time, some s.clock.now.day⟩ }) ∧
  (∀ (x : Schedule) (n m : DailyName) (d : DailySlot), (x.setDaily n d).daily m = (if m = n then d else x.daily m) ∧
    (x.setDaily n d).cutover = x.cutover ∧ (x.setDaily n d).inhibit = x.inhibit) ∧
  (∀ (s t : State) (c : Instr) (n : DailyName),
    (c, n) ∈ [(Instr.storeOpen, DailyName.storeOpen), (.storeClose, .storeClose), (.nightStart, .nightStart),
      (.nightEnd, .nightEnd)] → s.dailyDue n = true → Sys2Proof.Machine.exec c s = .next t →
    (t.schedule.daily n).firedDay = some s.clock.now.day ∧ (∀ m, m ≠ n → t.schedule.daily m = s.schedule.daily m) ∧
    t.dailyDue n = false ∧ Sys2Proof.Machine.exec c t = .next t) ∧
  (∀ s t : State, s.cutoverDue = true → Sys2Proof.Machine.exec .cutover s = .next t →
    t.schedule.cutover = none ∧ t.cutoverDue = false ∧ Sys2Proof.Machine.exec .cutover t = .next t)

/-- NIGHT-END cuts the session at once in any active state, and an Open batch is discarded; in an inactive state it changes
nothing but its Fired Day. Nothing is built from a journal report still asked for (R158, R159, R135). That such a report is
dropped with the session, so that `reportAsked` falls at the cut, is the model's choice (log 42), and so is NIGHT-CUT before
BATCH-DISCARDED (log 53). -/
def Obligations.NightEndCutsTheSession : Prop :=
  (∀ s : State, s.dailyDue .nightEnd = true → s.session.state.active = false →
    Sys2Proof.Machine.exec .nightEnd s = .next (s.markFired .nightEnd)) ∧
  (∀ s : State, s.dailyDue .nightEnd = true → s.session.state.active = true →
    ∃ t : State, Sys2Proof.Machine.exec .nightEnd s = .next t ∧
    t.session = { s.session with
      state := .cut, timer := none, outstanding := [], lastOutcome := some .nightEnd, reportAsked := false
      releaseNotice := false } ∧
    t.counter .nightCut = min (s.counter .nightCut + 1) 65535 ∧
    (∀ b, s.batch = some b → b.state = .receiving → t.batch = some { b with state := .withdrawing, position := 0 } ∧
      t.counter .batchDiscarded = min (s.counter .batchDiscarded + 1) 65535) ∧
    ((∀ b, s.batch = some b → b.state ≠ .receiving) → t.batch = s.batch ∧ t.schedule = (s.markFired .nightEnd).schedule) ∧
    t.journal = s.journal ∧ t.items = s.items ∧ Sys2Proof.Machine.exec .transferOpen t = .next t)

/-- A taken Set Time loads the time, makes Time Valid true and counts TIME-SET. The first set after power-on and a backward set
settle the daily slots: one whose time is reached takes the day as its Fired Day and its action is not taken; the first set also
evaluates the store hours, by the table of R12. A forward set fires every daily slot then due: the later of STORE-OPEN and
STORE-CLOSE gives the mode, NIGHT-START starts a Night session where none is active and NIGHT-END cuts an active one. Every set
but one to the time in force fires a CUTOVER whose moment is reached; that one fires nothing (R4, R5, R6, R7, R9, R12). A
millisecond above 86,399,999 is refused. The layout of the parameters is the model's choice (log 9), and so is that what the set
counts comes before the response (log 51), and that a slot which an advance had made due before the set is judged afresh at the
new time (log 65). -/
def Obligations.SetTimeLoadsTheTime : Prop :=
  (∀ (s u v : State) (src : Source) (f p : List Byte) (m : Moment), s.Takes src 16 f u p → 6 ≤ p.length →
    m = ⟨fieldAt p 0 2, fieldAt p 2 4⟩ → m.ms < 86400000 → v = { u with clock := ⟨m, true⟩ } →
    ∃ t : State, Sys2Proof.Machine.exec (.setTime src) s = .next (t.answer src f 16 .done []) ∧
    t.clock = ⟨m, true⟩ ∧ t.counter .timeSet = min (u.counter .timeSet + 1) 65535 ∧
    (u.clock.valid = false → t.mode = hoursMode u.schedule.storeOpen.time u.schedule.storeClose.time m.ms) ∧
    (u.clock = ⟨m, true⟩ → t.schedule = u.schedule ∧ t.mode = u.mode ∧ t.batch = u.batch ∧ t.session = u.session) ∧
    (u.clock.valid = false ∨ (m ≠ u.clock.now ∧ Moment.le m u.clock.now = true) →
      t.session = u.session ∧ (u.clock.valid = true → t.mode = u.mode) ∧
      (∀ n x, (u.schedule.daily n).time = some x → x ≤ m.ms → t.schedule.daily n = ⟨some x, some m.day⟩) ∧
      (∀ n, (∀ x, (u.schedule.daily n).time = some x → m.ms < x) → t.schedule.daily n = u.schedule.daily n)) ∧
    (u.clock.valid = true → Moment.le m u.clock.now = false →
      (∀ n, t.schedule.daily n =
        if v.dailyDue n then ⟨(u.schedule.daily n).time, some m.day⟩ else u.schedule.daily n) ∧
      (v.dailyDue .storeOpen = false → v.dailyDue .storeClose = false → t.mode = u.mode) ∧
      (v.dailyDue .storeOpen = true → v.dailyDue .storeClose = false → t.mode = .trading) ∧
      (v.dailyDue .storeOpen = false → v.dailyDue .storeClose = true → t.mode = .closed) ∧
      (∀ o c, v.dailyDue .storeOpen = true → v.dailyDue .storeClose = true → u.schedule.storeOpen.time = some o →
        u.schedule.storeClose.time = some c → o ≠ c → t.mode = if o < c then .closed else .trading) ∧
      (v.dailyDue .nightStart = false → v.dailyDue .nightEnd = false → t.session = u.session) ∧
      (v.dailyDue .nightStart = true → v.dailyDue .nightEnd = false → u.session.state.active = false →
        t.session.type = some .night ∧ t.session.state = .opening ∧ t.session.openTag = wrap16 u.session.openTag) ∧
      (v.dailyDue .nightStart = true → v.dailyDue .nightEnd = false → u.session.state.active = true →
        t.session = u.session) ∧
      (v.dailyDue .nightStart = false → v.dailyDue .nightEnd = true → u.session.state.active = true →
        t.session.state = .cut ∧ t.session.lastOutcome = some .nightEnd) ∧
      (v.dailyDue .nightStart = false → v.dailyDue .nightEnd = true → u.session.state.active = false →
        t.session = u.session) ∧
      (∀ a z, v.dailyDue .nightStart = true → v.dailyDue .nightEnd = true → u.schedule.nightStart.time = some a →
        u.schedule.nightEnd.time = some z → a ≠ z →
        t.session.state = if a < z then .cut else .opening)) ∧
    (∀ x, u.clock ≠ ⟨m, true⟩ → u.schedule.cutover = some x → u.loading = false → u.schedule.inhibit = false →
      Moment.le x m = true → t.schedule.cutover = none ∧
      (∀ b, u.batch = some b → b.state = .armed → t.batch = some { b with state := .cutting, position := 0 })) ∧
    ((∀ x, u.schedule.cutover = some x → Moment.le x m = false) → (∀ b, u.batch = some b → b.state ≠ .receiving) →
      t.schedule.cutover = u.schedule.cutover ∧ t.batch = u.batch) ∧
    t.items = u.items ∧ t.journal = u.journal ∧ t.settings = u.settings ∧ t.tills = u.tills) ∧
  (∀ (s u : State) (src : Source) (f p : List Byte), s.Takes src 16 f u p → 6 ≤ p.length → 86400000 ≤ fieldAt p 2 4 →
    Sys2Proof.Machine.exec (.setTime src) s = .next (u.answer src f 16 .range [])) ∧
  -- The store hours (R12).
  (∀ ms o c : Nat, hoursMode none none ms = .trading ∧ hoursMode (some o) none ms = .trading ∧
    hoursMode none (some c) ms = .closed ∧
    (o < c → hoursMode (some o) (some c) ms = if o ≤ ms ∧ ms < c then .trading else .closed) ∧
    (c < o → hoursMode (some o) (some c) ms = if o ≤ ms ∨ ms < c then .trading else .closed))

/-- Set Schedule Slot gives a daily slot its time, an already passed one being marked fired, or removes it; it moves the CUTOVER
slot of an Armed batch with the batch's Cutover Time and is refused with State in every other batch state and with no record,
whether it sets or clears. A body too short, a slot that is none of the five, a presence byte above 1 and a time outside its
range or, for a daily slot, held by another are refused with Range (log 23). Set Store Mode sets the mode, and a change to
Closed starts the Closing Sweep; another value is refused with Range (R8, R12). The layout of the parameters is the model's
choice (log 9), and so is that a slot which an advance had made due before the request is judged afresh by its new time (log
65). -/
def Obligations.ScheduleAndModeRequests : Prop :=
  (∀ (s u : State) (src : Source) (f p : List Byte) (n : DailyName), s.Takes src 17 f u p → 6 ≤ p.length →
    dailyNames[fieldAt p 0 1]? = some n → fieldAt p 1 1 = 1 → fieldAt p 2 4 < 86400000 →
    u.timeTaken n (fieldAt p 2 4) = false →
    Sys2Proof.Machine.exec (.setScheduleSlot src) s = .next (State.answer { u with
      schedule := u.schedule.setDaily n ⟨some (fieldAt p 2 4),
        if u.clock.valid = true ∧ fieldAt p 2 4 ≤ u.clock.now.ms then some u.clock.now.day
        else (u.schedule.daily n).firedDay⟩ } src f 17 .done [])) ∧
  (∀ (s u : State) (src : Source) (f p : List Byte) (n : DailyName), s.Takes src 17 f u p → 6 ≤ p.length →
    dailyNames[fieldAt p 0 1]? = some n → fieldAt p 1 1 = 0 →
    Sys2Proof.Machine.exec (.setScheduleSlot src) s = .next (State.answer { u with
      schedule := u.schedule.setDaily n ⟨none, (u.schedule.daily n).firedDay⟩ } src f 17 .done [])) ∧
  (∀ (s u : State) (src : Source) (f p : List Byte) (b : Batch), s.Takes src 17 f u p → 8 ≤ p.length →
    fieldAt p 0 1 = 4 → fieldAt p 1 1 = 0 → u.batch = some b → b.state = .armed →
    Sys2Proof.Machine.exec (.setScheduleSlot src) s = .next (State.answer { u with
      schedule := { u.schedule with cutover := none }, batch := some { b with cutoverTime := none } } src f 17 .done [])) ∧
  (∀ (s u : State) (src : Source) (f p : List Byte) (b : Batch) (m : Moment), s.Takes src 17 f u p → 8 ≤ p.length →
    fieldAt p 0 1 = 4 → fieldAt p 1 1 = 1 → m = ⟨fieldAt p 2 2, fieldAt p 4 4⟩ → m.ms < 86400000 →
    u.batch = some b → b.state = .armed → u.clock.valid = false ∨ Moment.le m u.clock.now = false →
    Sys2Proof.Machine.exec (.setScheduleSlot src) s = .next (State.answer { u with
      schedule := { u.schedule with cutover := some m }, batch := some { b with cutoverTime := some m } } src f 17 .done [])) ∧
  (∀ (s u : State) (src : Source) (f p : List Byte) (b : Batch) (m : Moment), s.Takes src 17 f u p → 8 ≤ p.length →
    fieldAt p 0 1 = 4 → fieldAt p 1 1 = 1 → m = ⟨fieldAt p 2 2, fieldAt p 4 4⟩ → m.ms < 86400000 →
    u.batch = some b → b.state = .armed → u.clock.valid = true → u.loading = false → u.schedule.inhibit = false →
    Moment.le m u.clock.now = true →
    Sys2Proof.Machine.exec (.setScheduleSlot src) s = .next (State.answer { u with
      schedule := { u.schedule with cutover := none }
      batch := some { b with cutoverTime := some m, state := .cutting, position := 0 } } src f 17 .done [])) ∧
  (∀ (s u : State) (src : Source) (f p : List Byte), s.Takes src 17 f u p → 8 ≤ p.length →
    fieldAt p 0 1 = 4 → fieldAt p 1 1 = 0 ∨ (fieldAt p 1 1 = 1 ∧ fieldAt p 4 4 < 86400000) →
    (∀ b, u.batch = some b → b.state ≠ .armed) →
    Sys2Proof.Machine.exec (.setScheduleSlot src) s = .next (u.answer src f 17 .state [])) ∧
  (∀ (s u : State) (src : Source) (f p : List Byte), s.Takes src 18 f u p → 1 ≤ p.length → fieldAt p 0 1 = 0 →
    Sys2Proof.Machine.exec (.setStoreMode src) s = .next (State.answer { u with mode := .trading } src f 18 .done [])) ∧
  (∀ (s u : State) (src : Source) (f p : List Byte), s.Takes src 18 f u p → 1 ≤ p.length → fieldAt p 0 1 = 1 →
    u.mode = .trading →
    Sys2Proof.Machine.exec (.setStoreMode src) s = .next (State.answer { u with
      mode := .closed
      guests := { u.guests with closingNumber := wrap16 u.guests.closingNumber, sweep := some 0 } } src f 18 .done [])) ∧
  (∀ (s u : State) (src : Source) (f p : List Byte), s.Takes src 18 f u p → 1 ≤ p.length → fieldAt p 0 1 = 1 →
    u.mode = .closed → Sys2Proof.Machine.exec (.setStoreMode src) s = .next (u.answer src f 18 .done [])) ∧
  -- Range (R8, R12, R184): a short body, an unnamed slot or mode, a presence byte that is neither 0 nor 1, a time outside its range or
  -- held by another daily slot.
  (∀ (s u : State) (src : Source) (f p : List Byte), s.Takes src 17 f u p →
    p.length < 1 ∨ 4 < fieldAt p 0 1 ∨ (fieldAt p 0 1 ≤ 3 ∧ (p.length < 6 ∨ 1 < fieldAt p 1 1)) ∨
      (∃ n, dailyNames[fieldAt p 0 1]? = some n ∧ fieldAt p 1 1 = 1 ∧
        (86400000 ≤ fieldAt p 2 4 ∨ ∃ m, m ≠ n ∧ (u.schedule.daily m).time = some (fieldAt p 2 4))) ∨
      (fieldAt p 0 1 = 4 ∧ (p.length < 8 ∨ 1 < fieldAt p 1 1 ∨ (fieldAt p 1 1 = 1 ∧ 86400000 ≤ fieldAt p 4 4))) →
    Sys2Proof.Machine.exec (.setScheduleSlot src) s = .next (u.answer src f 17 .range [])) ∧
  (∀ (s u : State) (src : Source) (f p : List Byte), s.Takes src 18 f u p → p.length < 1 ∨ 2 ≤ fieldAt p 0 1 →
    Sys2Proof.Machine.exec (.setStoreMode src) s = .next (u.answer src f 18 .range [])) ∧
  (∀ (s : State) (n : DailyName) (x : Nat), s.timeTaken n x = true ↔ ∃ m, m ≠ n ∧ (s.schedule.daily m).time = some x)

/-! ### Ports, frames and transmitters -/

/-- A link that comes up lets its port receive and transmit, brings an Off label link to Silent, or Faulted in its place, where
superframes can start, and on CTL may let owed notices out. A link that goes down discards its port's queues and transmission:
each copy ends, a frame's last copy returns its cells and gives the waiting blocks a release notice, and a pending restart whose
response's copy it was begins. Its addresses leave the table, the till Signed-On on it becomes Absent with its Last fields kept,
its guests' sessions lose their Port, and its label link goes Off; what the tables hold of other ports stays (R15, R25, R39,
R40, R41, R60, R104, R105, R168, R190, R195). That superframes cannot start in this sense while the source is internal and P is
0, also where a Beacon Once is pending, so that a Link Up then leaves an Off link Off, is the model's choice (log 40), and so is
the missed-beacon count 0 of a link that enters Faulted (log 67). -/
def Obligations.LinksComeUpAndGoDown : Prop :=
  (∀ (s : State) (p : PortId), s.supplied = true → s.isUp p = false → p ≠ .ctl → (∀ l, p ≠ .b l) →
    Sys2Proof.Machine.exec (.linkUp p) s = .next (s.setPort p { s.port p with linkUp := true })) ∧
  (∀ s : State, s.supplied = true → s.isUp .ctl = false →
    ∃ t : State, Sys2Proof.Machine.exec (.linkUp .ctl) s = .next t ∧
    Spoken (s.setPort .ctl { s.port .ctl with linkUp := true }) t) ∧
  (∀ (s : State) (l : LinkId), s.supplied = true → s.isUp (.b l) = false → (s.link l).state = .off →
    s.superframesCanStart = true →
    ∃ t : State, Sys2Proof.Machine.exec (.linkUp (.b l)) s = .next t ∧ t.isUp (.b l) = true ∧
    (t.link l).missed = 0 ∧ (t.link l).checkErrors = (s.link l).checkErrors ∧
    (t.link l).state = (if s.settings.labels.faultThreshold ≤ (s.link l).checkErrors then .faulted else .silent)) ∧
  (∀ (s : State) (l : LinkId), s.supplied = true → s.isUp (.b l) = false →
    (s.link l).state ≠ .off ∨ s.superframesCanStart = false →
    Sys2Proof.Machine.exec (.linkUp (.b l)) s = .next (s.setPort (.b l) { s.port (.b l) with linkUp := true })) ∧
  (∀ (s : State) (p : PortId), s.isUp p = true →
    ∃ t : State, Sys2Proof.Machine.exec (.linkDown p) s = .next t ∧
    t.port p = ⟨false, (s.port p).lengthErrors, (s.port p).checkErrors, (s.port p).loadingDiscards, (s.port p).localFilters,
      ⟨[], [], [], [], []⟩, none, ⟨false, false, 0, 0⟩⟩ ∧
    (∀ q, q ≠ p → t.isUp q = s.isUp q) ∧
    (p = .ctl ∨ (∃ n, p = .t n) ∨ (∃ l, p = .b l) → ∀ kv ∈ t.addresses, kv.2.port ≠ p) ∧
    (∀ n, p = .t n → ∀ kv ∈ t.tills, kv.2.port ≠ some n) ∧
    (∀ n, p = .a n → ∀ kv ∈ t.guests.table, kv.2.port ≠ some n) ∧
    (∀ l, p = .b l → (t.link l).state = .off)) ∧
  -- What a Link Down does to each block's records of the port, and to the frames that its copies held (R15, R25, R40, R41, R60).
  (∀ (s : State) (p : PortId) (refs : List Nat), s.isUp p = true →
    refs = (s.port p).sending.toList ++ [OutClass.control, .till, .label, .bulk, .guest].flatMap (s.queue p) →
    ∃ t : State, Sys2Proof.Machine.exec (.linkDown p) s = .next t ∧
    (∀ n, p = .t n → t.tills = s.tills.map (fun kv => (kv.1, if kv.2.port = some n then { kv.2 with port := none } else kv.2))) ∧
    ((∀ n, p ≠ .t n) → t.tills = s.tills) ∧
    (p = .ctl ∨ (∃ n, p = .t n) ∨ (∃ l, p = .b l) →
      t.addresses = s.addresses.filter (fun kv => decide (kv.2.port ≠ p))) ∧
    (p = .up ∨ (∃ n, p = .a n) → t.addresses = s.addresses) ∧
    (∀ n, p = .a n → t.guests = { s.guests with table := s.guests.table.map (fun kv => (kv.1,
      if kv.2.port = some n then { kv.2 with port := none } else kv.2)) }) ∧
    ((∀ n, p ≠ .a n) → t.guests = s.guests) ∧
    (∀ l, p = .b l → t.link l = { (s.link l).yielded (decide ((s.link l).state = .ready)) with state := .off }) ∧
    (∀ q c, q ≠ p → s.queue q c <+: t.queue q c) ∧
    (s.PoolLegal →
      (∀ r fr, s.pool.frames.get? r = some fr → t.pool.frames.get? r =
        if refs.count r = 0 then some fr else if fr.copies ≤ refs.count r then none
        else some { fr with copies := fr.copies - refs.count r }) ∧
      ∀ c, t.pool.inUse.get c = t.heldCells c) ∧
    (∀ r ref fr, s.management.restart = some r → r.response = some ref → ref ∈ refs → s.pool.frames.get? ref = some fr →
      fr.origin = .generated → t.management.restart = some ⟨r.kind, none⟩) ∧
    ((∃ b ∈ s.session.outstanding, b.condition ≠ .offered) →
      (p = .up ∧ s.queue .up .bulk ≠ []) ∨ (∃ r ∈ refs, ∃ fr, s.pool.frames.get? r = some fr ∧ fr.copies ≤ refs.count r) →
      t.session = { s.session with releaseNotice := true }))

/-- What reaches a port's receiver: nothing on a Down port; a discard while Loading; a counted length error or check error;
MISPLACED for a frame from the management address and for a branch message the port does not take; a taken message handed on. A
unicast frame: a Local filter at the arrival port, ZONE-DENY where the matrix denies, QUEUE-DROP at a Down target, else
admission in its class; UNKNOWN-DEST without a target. Towards a guest: ZONE-DENY at a Barred session, at a Pending or Expired
one but from CTL while the controller is Present, and at the matrix; else its policer. A wired group frame goes to every other Up
port that is no guest access point and that the matrix permits. An A port: ZONE-DENY for a group source; a first frame makes a
Pending session while the store is Trading; a known station's session takes the port; Barred is denied, Pending and Expired
reach CTL alone while the controller is Present, a group frame goes to CTL alone, and guest to guest is denied (R16-R20, R22,
R26-R32, R167, R168, R174, R178). `v` is the part after the source has been handled (R22, R23), `w` after the Guest Unit has taken
the arrival. Down Links alone leave a group frame's drop uncounted (log 25); guest to guest at one A port (log 26) and the order of
the drops of R29 (log 43) are the model's choices, and so is an unassigned request answered as it comes first (log 3). -/
def Obligations.FramesAreJudgedInOrder : Prop :=
  (∀ (s : State) (p : PortId) (f : List Byte), s.isUp p = false →
    Sys2Proof.Machine.exec (.frameReceived p f) s = .next s) ∧
  (∀ (s : State) (p : PortId) (f : List Byte), s.isUp p = true → s.loading = true →
    Sys2Proof.Machine.exec (.frameReceived p f) s =
      .next (s.setPort p { s.port p with loadingDiscards := min ((s.port p).loadingDiscards + 1) 65535 })) ∧
  (∀ (s : State) (p : PortId) (f : List Byte), s.isUp p = true → s.loading = false → f.length < 64 ∨ 1536 < f.length →
    Sys2Proof.Machine.exec (.frameReceived p f) s =
      .next (s.setPort p { s.port p with lengthErrors := min ((s.port p).lengthErrors + 1) 65535 })) ∧
  (∀ (s : State) (p : PortId) (f : List Byte), s.isUp p = true → s.loading = false → 64 ≤ f.length → f.length ≤ 1536 →
    frameCheckHolds f = false →
    Sys2Proof.Machine.exec (.frameReceived p f) s =
      .next (s.setPort p { s.port p with checkErrors := min ((s.port p).checkErrors + 1) 65535 })) ∧
  (∀ (s : State) (p : PortId) (f : List Byte), s.isUp p = true → s.loading = false → 64 ≤ f.length → f.length ≤ 1536 →
    frameCheckHolds f = true → frameSource f = s.managementAddress →
    Sys2Proof.Machine.exec (.frameReceived p f) s = .next (s.count .misplaced)) ∧
  -- What counting an event does: the counter rises, and all else it does is to say so on CTL.
  (∀ (s : State) (k : EventKind), Spoken (s.raise k 1) (s.count k) ∧
    ∀ p c, p ≠ .ctl ∨ c ≠ .control → (s.count k).queue p c = s.queue p c) ∧
  -- The matrix (R20) and the class of a frame (R32).
  (∀ (s : State) (a b : Zone), s.permits a b = true ↔
    (a, b) ∉ [(Zone.guest, Zone.till), (.guest, .label), (.guest, .guest), (.till, .guest), (.label, .guest)] ∧
    s.settings.queue.matrix[matrixIndex a b] = true) ∧
  (∀ (src : Zone) (dsts : List Zone), outputClass src dsts =
    if Zone.guest ∈ src :: dsts then .guest else if Zone.till ∈ src :: dsts then .till
    else if Zone.label ∈ src :: dsts then .label else .bulk) ∧
  -- Branch messages (R18, R19).
  (∀ (s v : State) (p : PortId) (f : List Byte), s.Arrives p f → s.MessageTaken p f → v = s.handleSource p (frameSource f) →
    (p ≠ .up → p ≠ .ctl →
      Sys2Proof.Machine.exec (.frameReceived p f) s = .next { v with handed := v.handed ++ [⟨p, f⟩] }) ∧
    (p = .up ∨ p = .ctl →
      Sys2Proof.Machine.exec (.frameReceived p f) s =
        .next (State.serveUnassigned { v with handed := v.handed ++ [⟨p, f⟩] } p))) ∧
  (∀ (s v : State) (p : PortId) (f : List Byte), s.Arrives p f →
    frameType f = 0x9C41 ∨ frameDestination f = s.managementAddress → ¬s.MessageTaken p f →
    v = s.handleSource p (frameSource f) → Sys2Proof.Machine.exec (.frameReceived p f) s = .next (v.count .misplaced)) ∧
  -- Unicast frames from UP, CTL, a T port or a B port (R26, R27).
  (∀ (s v : State) (p q : PortId) (f : List Byte), s.ArrivesOrdinary p f → isGroup (frameDestination f) = false →
    isGuestPort p = false → v = s.handleSource p (frameSource f) → v.LiesAt p (frameDestination f) q →
    (q = p → Sys2Proof.Machine.exec (.frameReceived p f) s =
      .next (v.setPort p { v.port p with localFilters := min ((v.port p).localFilters + 1) 65535 })) ∧
    (q ≠ p → s.permits (portZone p) (portZone q) = false →
      Sys2Proof.Machine.exec (.frameReceived p f) s = .next (v.count .zoneDeny)) ∧
    (q ≠ p → s.permits (portZone p) (portZone q) = true → s.isUp q = false →
      Sys2Proof.Machine.exec (.frameReceived p f) s = .next (v.count .queueDrop)) ∧
    (q ≠ p → s.permits (portZone p) (portZone q) = true → s.isUp q = true →
      Sys2Proof.Machine.exec (.frameReceived p f) s =
        .next (v.offer (outputClass (portZone p) [portZone q]) .forwarded f [q]).1)) ∧
  (∀ (s v : State) (p : PortId) (f : List Byte), s.ArrivesOrdinary p f → isGroup (frameDestination f) = false →
    isGuestPort p = false → v = s.handleSource p (frameSource f) → v.LiesNowhere p (frameDestination f) →
    Sys2Proof.Machine.exec (.frameReceived p f) s = .next (v.count .unknownDest)) ∧
  -- Such frames towards a guest (R31).
  (∀ (s v : State) (p : PortId) (f : List Byte) (k : Nat) (g : Guest) (n : Fin 4), s.ArrivesOrdinary p f →
    isGroup (frameDestination f) = false → isGuestPort p = false → v = s.handleSource p (frameSource f) →
    v.findAddress (frameDestination f) = none → v.findGuest (frameDestination f) = some (k, g) → g.port = some n →
    (g.state = .barred ∨ (g.state.Limited ∧ ¬(p = .ctl ∧ s.management.supervision.present = true)) ∨
        s.permits (portZone p) .guest = false →
      Sys2Proof.Machine.exec (.frameReceived p f) s = .next (v.count .zoneDeny)) ∧
    (g.state.Live ∨ (g.state.Limited ∧ p = .ctl ∧ s.management.supervision.present = true) →
      s.permits (portZone p) .guest = true →
      (s.isUp (.a n) = false → Sys2Proof.Machine.exec (.frameReceived p f) s = .next (v.count .queueDrop)) ∧
      (s.isUp (.a n) = true → Sys2Proof.Machine.exec (.frameReceived p f) s =
        .next (v.forwardPoliced p f (.a n) (frameDestination f) .down)))) ∧
  -- Group frames from UP, CTL, a T port or a B port (R28).
  (∀ (s v : State) (p : PortId) (f : List Byte) (targets : List PortId), s.ArrivesOrdinary p f →
    isGroup (frameDestination f) = true → isGuestPort p = false → v = s.handleSource p (frameSource f) →
    targets = allPorts.filter (fun q => decide (q ≠ p) && !isGuestPort q && s.isUp q &&
      s.permits (portZone p) (portZone q)) →
    (targets ≠ [] → Sys2Proof.Machine.exec (.frameReceived p f) s =
      .next (v.offer (outputClass (portZone p) (targets.map portZone)) .forwarded f targets).1) ∧
    (targets = [] → (∃ q, q ≠ p ∧ isGuestPort q = false ∧ s.permits (portZone p) (portZone q) = false) →
      Sys2Proof.Machine.exec (.frameReceived p f) s = .next (v.count .zoneDeny)) ∧
    (targets = [] → (∀ q, q ≠ p → isGuestPort q = false → s.permits (portZone p) (portZone q) = true) →
      Sys2Proof.Machine.exec (.frameReceived p f) s = .next v)) ∧
  -- The Guest Unit's taking of an arrival (R167, R168, R178).
  (∀ (s : State) (a : Station) (n : Fin 4) (k : Nat) (g : Guest), s.findGuest a = some (k, g) →
    s.guestArrival a n = (s.putGuest k { g with port := some n }, true)) ∧
  (∀ (s : State) (a : Station) (n : Fin 4), s.findGuest a = none → s.mode = .closed →
    s.guestArrival a n = (s.count .zoneDeny, false)) ∧
  (∀ (s : State) (a : Station) (n : Fin 4), s.findGuest a = none → s.mode = .trading → 1024 ≤ s.guests.table.length →
    (∀ kv ∈ s.guests.table, ∀ hold, kv.2.state ≠ .expired hold) → s.guestArrival a n = (s.count .guestFull, false)) ∧
  (∀ (s : State) (a : Station) (n : Fin 4), s.findGuest a = none → s.mode = .trading → s.guests.table.length < 1024 →
    s.guestArrival a n = (s.putGuest s.guests.table.lowestFree
      ⟨a, some n, .pending 300000, s.clock.now, s.guests.closingNumber, 0, 0, none, none, 0, 3072000, 3072000⟩, true)) ∧
  (∀ (s : State) (a : Station) (n : Fin 4) (k : Nat) (g : Guest) (hold : Moment), s.findGuest a = none → s.mode = .trading →
    1024 ≤ s.guests.table.length → Table.wf s.guests.table → s.guests.table.get? k = some g → g.state = .expired hold →
    (∀ kv ∈ s.guests.table, ∀ h, kv.2.state = .expired h → Moment.le hold h = true ∧ (h = hold → k ≤ kv.1)) →
    s.guestArrival a n = ({ s with guests := { s.guests with
      table := Table.put k
        ⟨a, some n, .pending 300000, s.clock.now, s.guests.closingNumber, 0, 0, none, none, 0, 3072000, 3072000⟩
        (Table.del k s.guests.table)
      reclaims := min (s.guests.reclaims + 1) 65535 } }, true)) ∧
  -- Frames from an A port (R29, R30).
  (∀ (s : State) (n : Fin 4) (f : List Byte), s.ArrivesOrdinary (.a n) f → isGroup (frameSource f) = true →
    Sys2Proof.Machine.exec (.frameReceived (.a n) f) s = .next (s.count .zoneDeny)) ∧
  (∀ (s v w : State) (n : Fin 4) (f : List Byte), s.ArrivesOrdinary (.a n) f → isGroup (frameSource f) = false →
    v = s.handleSource (.a n) (frameSource f) → v.guestArrival (frameSource f) n = (w, false) →
    Sys2Proof.Machine.exec (.frameReceived (.a n) f) s = .next w) ∧
  (∀ (s v w : State) (n : Fin 4) (f : List Byte) (k : Nat) (g : Guest), s.ArrivesOrdinary (.a n) f →
    isGroup (frameSource f) = false → v = s.handleSource (.a n) (frameSource f) →
    v.guestArrival (frameSource f) n = (w, true) → w.findGuest (frameSource f) = some (k, g) →
    (g.state = .barred → Sys2Proof.Machine.exec (.frameReceived (.a n) f) s = .next (w.count .zoneDeny)) ∧
    (isGroup (frameDestination f) = true → g.state.Live ∨ g.state.Limited →
      (s.permits .guest .controller = false ∨ (g.state.Limited ∧ s.management.supervision.present = false) →
        Sys2Proof.Machine.exec (.frameReceived (.a n) f) s = .next (w.count .zoneDeny)) ∧
      (s.permits .guest .controller = true → g.state.Live ∨ s.management.supervision.present = true →
        (s.isUp .ctl = false → Sys2Proof.Machine.exec (.frameReceived (.a n) f) s = .next (w.count .queueDrop)) ∧
        (s.isUp .ctl = true → Sys2Proof.Machine.exec (.frameReceived (.a n) f) s =
          .next (w.forwardPoliced (.a n) f .ctl (frameSource f) .up)))) ∧
    (∀ q, isGroup (frameDestination f) = false → w.LiesAt (.a n) (frameDestination f) q →
      (g.state.Limited → ¬(q = .ctl ∧ s.management.supervision.present = true) →
        Sys2Proof.Machine.exec (.frameReceived (.a n) f) s = .next (w.count .zoneDeny)) ∧
      (g.state.Live ∨ (g.state.Limited ∧ q = .ctl ∧ s.management.supervision.present = true) →
        (q = .a n → Sys2Proof.Machine.exec (.frameReceived (.a n) f) s =
          .next (w.setPort (.a n) { w.port (.a n) with localFilters := min ((w.port (.a n)).localFilters + 1) 65535 })) ∧
        (q ≠ .a n → s.permits .guest (portZone q) = false →
          Sys2Proof.Machine.exec (.frameReceived (.a n) f) s = .next (w.count .zoneDeny)) ∧
        (q ≠ .a n → s.permits .guest (portZone q) = true → s.isUp q = false →
          Sys2Proof.Machine.exec (.frameReceived (.a n) f) s = .next (w.count .queueDrop)) ∧
        (q ≠ .a n → s.permits .guest (portZone q) = true → s.isUp q = true →
          Sys2Proof.Machine.exec (.frameReceived (.a n) f) s =
            .next (w.forwardPoliced (.a n) f q (frameSource f) .up)))) ∧
    (isGroup (frameDestination f) = false → g.state.Live ∨ g.state.Limited →
      w.LiesNowhere (.a n) (frameDestination f) →
      Sys2Proof.Machine.exec (.frameReceived (.a n) f) s = .next (w.count .unknownDest)) ∧
    (∀ j x m, isGroup (frameDestination f) = false → g.state.Live ∨ g.state.Limited →
      w.findAddress (frameDestination f) = none → w.findGuest (frameDestination f) = some (j, x) → x.port = some m →
      (g.state.Limited ∨ ¬x.state.Live ∨ m ≠ n →
        Sys2Proof.Machine.exec (.frameReceived (.a n) f) s = .next (w.count .zoneDeny)) ∧
      (g.state.Live → x.state.Live → m = n → Sys2Proof.Machine.exec (.frameReceived (.a n) f) s =
        .next (w.setPort (.a n) { w.port (.a n) with localFilters := min ((w.port (.a n)).localFilters + 1) 65535 })))) ∧
  (∀ (s : State) (n : Fin 4) (f : List Byte), s.ArrivesOrdinary (.a n) f → isGroup (frameSource f) = false →
    s.findAddress (frameSource f) = none → s.findGuest (frameSource f) = none → s.mode = .trading →
    s.guests.table.length < 1024 →
    ∃ (t : State) (g : Guest), Sys2Proof.Machine.exec (.frameReceived (.a n) f) s = .next t ∧
    t.guests.table.get? s.guests.table.lowestFree = some g ∧ g.station = frameSource f ∧ g.port = some n ∧
    g.state = .pending 300000 ∧ g.created = s.clock.now ∧ g.stamp = s.guests.closingNumber ∧ g.upRemaining = none ∧
    g.downRemaining = none) ∧
  (∀ (s v : State) (n : Fin 4) (f : List Byte) (k : Nat) (g : Guest), s.ArrivesOrdinary (.a n) f →
    isGroup (frameSource f) = false → isGroup (frameDestination f) = false → s.findAddress (frameSource f) = none →
    s.findGuest (frameSource f) = some (k, g) → (∃ e, g.state = .admitted e ∨ g.state = .throttled e) →
    v = s.putGuest k { g with port := some n } → s.findAddress (frameDestination f) = none →
    s.findGuest (frameDestination f) = none → s.permits .guest .uplink = true → s.isUp .up = true →
    Sys2Proof.Machine.exec (.frameReceived (.a n) f) s = .next (v.forwardPoliced (.a n) f .up (frameSource f) .up))

/-- A frame that arrives reaches the ports' counts and queues, the station tables, the messages handed on, the events and the
message errors, and nothing else of the part (2.3, 2.4). -/
def Obligations.FramesReachOnlyTheirTables : Prop :=
  ∀ (p : PortId) (f : List Byte) (s t : State), Sys2Proof.Machine.exec (.frameReceived p f) s = .next t →
    t = { s with
      ports := t.ports, addresses := t.addresses, handed := t.handed, pool := t.pool, guests := t.guests
      freeUsed := t.freeUsed
      management := { s.management with
        events := t.management.events, messageErrors := t.management.messageErrors } } ∧
    (∀ q, t.isUp q = s.isUp q) ∧ (∀ q, (t.port q).sending = (s.port q).sending) ∧ t.pool.bucket = s.pool.bucket

/-- A free transmitter takes the first of Control, Till and Label that waits. With those empty it serves Bulk and Guest by
deficit round robin: a class whose queue is empty at its Turn loses its Deficit and passes the Turn; otherwise it is granted its
quantum of 1,536 bytes times its weight once a turn, and its head frame is begun where the Deficit covers it, which then falls
by the frame's length, or else the Turn passes. On a shaped UP the frame so chosen, of whatever class, is begun where the bucket
holds 1,000 times its length, which the bucket then loses, and otherwise waits. A frame waits nowhere on a free port other than
UP without one being begun; a completed transmission ends its copy, and the last copy returns the cells; a return of cells, and
an entry that leaves UP's Bulk queue, give a release notice, which stands where some block waits (R33, R39, R40, R42, R43, R44,
R46, R47, R195). That what the round robin granted stays where the shaper then holds the frame back is log 36. -/
def Obligations.TransmittersServeTheQueues : Prop :=
  (∀ (s : State) (p : PortId) (c : OutClass) (ref : Nat) (rest : List Nat), s.isUp p = true → (s.port p).sending = none →
    s.queue p c = ref :: rest →
    c = .control ∨ (c = .till ∧ s.queue p .control = []) ∨ (c = .label ∧ s.queue p .control = [] ∧ s.queue p .till = []) →
    p ≠ .up ∨ s.settings.queue.shaperRate = 0 →
    Sys2Proof.Machine.exec (.transmitStart p) s = .next (s.setPort p { s.port p with
      queues := (s.port p).queues.set c rest, sending := some ref })) ∧
  (∀ (s : State) (c : OutClass) (ref : Nat) (rest : List Nat) (fr : StoredFrame), s.isUp .up = true →
    (s.port .up).sending = none → s.queue .up c = ref :: rest →
    c = .control ∨ (c = .till ∧ s.queue .up .control = []) ∨
      (c = .label ∧ s.queue .up .control = [] ∧ s.queue .up .till = []) →
    s.pool.frames.get? ref = some fr → s.settings.queue.shaperRate ≠ 0 →
    (s.pool.bucket < 1000 * fr.bytes.length → Sys2Proof.Machine.exec (.transmitStart .up) s = .next s) ∧
    (1000 * fr.bytes.length ≤ s.pool.bucket → ∃ t : State, Sys2Proof.Machine.exec (.transmitStart .up) s = .next t ∧
      (t.port .up).sending = some ref ∧ t.queue .up c = rest ∧
      t.pool.bucket = s.pool.bucket - 1000 * fr.bytes.length)) ∧
  (∀ (s : State) (p : PortId) (c : OutClass) (d : Drr) (ref n credit : Nat) (rest : List Nat), s.isUp p = true →
    (s.port p).sending = none → s.queue p .control = [] → s.queue p .till = [] → s.queue p .label = [] →
    d = (s.port p).drr → c = (if d.turnGuest then .guest else .bulk) → s.queue p c = ref :: rest → n = s.frameLength ref →
    credit = (if d.turnGuest then d.guestDeficit else d.bulkDeficit) +
      (if d.granted then 0 else 1536 * s.weight d.turnGuest) → n ≤ credit →
    (p ≠ .up ∨ s.settings.queue.shaperRate = 0 ∨ 1000 * n ≤ s.pool.bucket →
      ∃ t : State, Sys2Proof.Machine.exec (.transmitStart p) s = .next t ∧
      t.port p = { s.port p with
        queues := (s.port p).queues.set c rest
        sending := some ref
        drr := if d.turnGuest then { d with granted := true, guestDeficit := credit - n }
          else { d with granted := true, bulkDeficit := credit - n } } ∧
      t.pool = (if p = .up ∧ s.settings.queue.shaperRate ≠ 0 then { s.pool with bucket := s.pool.bucket - 1000 * n }
        else s.pool)) ∧
    (p = .up → s.settings.queue.shaperRate ≠ 0 → s.pool.bucket < 1000 * n →
      Sys2Proof.Machine.exec (.transmitStart p) s = .next (s.setPort p { s.port p with
        drr := if d.turnGuest then { d with granted := true, guestDeficit := credit }
          else { d with granted := true, bulkDeficit := credit } }))) ∧
  (∀ (s : State) (p : PortId) (c : OutClass) (d : Drr) (credit : Nat), s.isUp p = true → (s.port p).sending = none →
    s.queue p .control = [] → s.queue p .till = [] → s.queue p .label = [] → (s.queue p .bulk ≠ [] ∨ s.queue p .guest ≠ []) →
    (∀ g, 1 ≤ s.weight g) → (∀ r, s.frameLength r ≤ 1536) →
    d = (s.port p).drr → c = (if d.turnGuest then .guest else .bulk) →
    (s.queue p c = [] ∧ credit = 0) ∨
      (∃ ref rest, s.queue p c = ref :: rest ∧ credit < s.frameLength ref ∧
        credit = (if d.turnGuest then d.guestDeficit else d.bulkDeficit) +
          (if d.granted then 0 else 1536 * s.weight d.turnGuest)) →
    Sys2Proof.Machine.exec (.transmitStart p) s =
      Sys2Proof.Machine.exec (.transmitStart p) (s.setPort p { s.port p with
        drr := if d.turnGuest then { d with turnGuest := false, granted := false, guestDeficit := credit }
          else { d with turnGuest := true, granted := false, bulkDeficit := credit } })) ∧
  (∀ (s : State) (p : PortId), s.isUp p = true → (s.port p).sending = none → p ≠ .up →
    (∃ c ∈ allClasses, s.queue p c ≠ []) → (∀ g, 1 ≤ s.weight g) → (∀ r, s.frameLength r ≤ 1536) →
    ∃ (t : State) (ref : Nat), Sys2Proof.Machine.exec (.transmitStart p) s = .next t ∧ (t.port p).sending = some ref) ∧
  (∀ (s : State) (p : PortId) (ref : Nat) (fr : StoredFrame), (s.port p).sending = some ref →
    s.pool.frames.get? ref = some fr → fr.copies ≤ 1 →
    ∃ t : State, Sys2Proof.Machine.exec (.transmitComplete p) s = .next t ∧ (t.port p).sending = none ∧
    t.pool = { s.pool with
      frames := Table.del ref s.pool.frames
      inUse := s.pool.inUse.set fr.cls (s.pool.inUse.get fr.cls - cellsOf fr.bytes.length) } ∧
    (∀ r, fr.origin = .generated → s.management.restart = some r → r.response = some ref →
      t.management.restart = some ⟨r.kind, none⟩) ∧
    ((∃ b ∈ s.session.outstanding, b.condition ≠ .offered) → t.session = { s.session with releaseNotice := true }) ∧
    ((∀ b ∈ s.session.outstanding, b.condition = .offered) → t.session = s.session)) ∧
  (∀ (s : State) (p : PortId) (ref : Nat) (fr : StoredFrame), (s.port p).sending = some ref →
    s.pool.frames.get? ref = some fr → 1 < fr.copies →
    ∃ t : State, Sys2Proof.Machine.exec (.transmitComplete p) s = .next t ∧ (t.port p).sending = none ∧
    t.pool = { s.pool with frames := Table.put ref { fr with copies := fr.copies - 1 } s.pool.frames } ∧
    t.session = s.session ∧
    (∀ r, fr.origin = .generated → s.management.restart = some r → r.response = some ref →
      t.management.restart = some ⟨r.kind, none⟩)) ∧
  -- An entry that leaves UP's Bulk queue gives a release notice too (R39).
  (∀ (s t : State) (ref : Nat) (rest : List Nat), s.isUp .up = true → (s.port .up).sending = none →
    s.queue .up .bulk = ref :: rest → Sys2Proof.Machine.exec (.transmitStart .up) s = .next t →
    (t.queue .up .bulk = rest → (∃ b ∈ s.session.outstanding, b.condition ≠ .offered) →
      t.session = { s.session with releaseNotice := true }) ∧
    (t.queue .up .bulk = ref :: rest ∨ (∀ b ∈ s.session.outstanding, b.condition = .offered) → t.session = s.session))

/-- A unicast source on CTL, a T port or a B port is learned at its port: a known station and a new one while the table has
room; one that a guest's session holds is not, and at a full table ADDR-FULL is counted. An A port takes a known station's entry
away and counts ZONE-MOVE; UP and a group source leave the table. An Address Table entry whose age is over is removed; Address
Flush removes all entries, those of a port, or that of a station, which is refused with Unknown where the table lacks it; Zone
Matrix Write sets a cell that is not fixed and is refused with Range on one that is; a body too short and a form, port, zone or
value outside its list are refused with Range too (R20, R21, R22, R23, R24, R25). The layout of the parameters is the model's
choice (log 9), and so is that a source which a guest's session holds counts no ADDR-FULL at a full table (log 66). -/
def Obligations.AddressesAndZonesAreWritten : Prop :=
  (∀ (s : State) (p : PortId) (a : Station), isGroup a = true ∨ p = .up → s.handleSource p a = s) ∧
  (∀ (s : State) (p : PortId) (a : Station), isGroup a = false → p ≠ .up → isGuestPort p = false →
    (∃ e, s.addresses.get? a.toNat = some e) ∨
      (s.addresses.get? a.toNat = none ∧ s.findGuest a = none ∧ s.addresses.length < 2048) →
    s.handleSource p a = { s with addresses := Table.put a.toNat ⟨p, s.settings.queue.ageTime, 0⟩ s.addresses }) ∧
  (∀ (s : State) (p : PortId) (a : Station), isGroup a = false → p ≠ .up → isGuestPort p = false →
    s.addresses.get? a.toNat = none →
    ((s.findGuest a).isSome = true → s.handleSource p a = s) ∧
    (s.findGuest a = none → 2048 ≤ s.addresses.length → Spoken (s.raise .addrFull 1) (s.handleSource p a))) ∧
  (∀ (s : State) (n : Fin 4) (a : Station), isGroup a = false →
    ((s.addresses.get? a.toNat).isSome = true →
      Spoken (State.raise { s with addresses := Table.del a.toNat s.addresses } .zoneMove 1) (s.handleSource (.a n) a)) ∧
    (s.addresses.get? a.toNat = none → s.handleSource (.a n) a = s)) ∧
  (∀ (s : State) (a : Station) (e : AddressEntry), s.addresses.get? a.toNat = some e → e.age = 0 →
    Sys2Proof.Machine.exec (.addressAgeExpiry a) s = .next { s with addresses := Table.del a.toNat s.addresses }) ∧
  (∀ (s u : State) (src : Source) (f p : List Byte), s.Takes src 81 f u p → 1 ≤ p.length → fieldAt p 0 1 = 0 →
    Sys2Proof.Machine.exec (.addressFlush src) s = .next (State.answer { u with addresses := [] } src f 81 .done [])) ∧
  (∀ (s u : State) (src : Source) (f p : List Byte) (q : PortId), s.Takes src 81 f u p → 2 ≤ p.length → fieldAt p 0 1 = 1 →
    allPorts[fieldAt p 1 1]? = some q →
    Sys2Proof.Machine.exec (.addressFlush src) s = .next (State.answer { u with
      addresses := u.addresses.filter (fun kv => decide (kv.2.port ≠ q)) } src f 81 .done [])) ∧
  (∀ (s u : State) (src : Source) (f p : List Byte) (a : Station) (e : AddressEntry), s.Takes src 81 f u p → 7 ≤ p.length →
    fieldAt p 0 1 = 2 → a = stationAt p 1 → u.addresses.get? a.toNat = some e →
    Sys2Proof.Machine.exec (.addressFlush src) s = .next (State.answer { u with
      addresses := Table.del a.toNat u.addresses } src f 81 .done [])) ∧
  (∀ (s u : State) (src : Source) (f p : List Byte) (a b : Zone), s.Takes src 80 f u p → 3 ≤ p.length → fieldAt p 2 1 ≤ 1 →
    zoneOf? (fieldAt p 0 1) = some a → zoneOf? (fieldAt p 1 1) = some b → fixedCell a b = false →
    Sys2Proof.Machine.exec (.zoneMatrixWrite src) s = .next (State.answer { u with
      settings := { u.settings with queue := { u.settings.queue with
        matrix := u.settings.queue.matrix.set (matrixIndex a b) (decide (fieldAt p 2 1 = 0)) } } } src f 80 .done [])) ∧
  (∀ (s u : State) (src : Source) (f p : List Byte) (a b : Zone), s.Takes src 80 f u p → 3 ≤ p.length → fieldAt p 2 1 ≤ 1 →
    zoneOf? (fieldAt p 0 1) = some a → zoneOf? (fieldAt p 1 1) = some b → fixedCell a b = true →
    Sys2Proof.Machine.exec (.zoneMatrixWrite src) s = .next (u.answer src f 80 .range [])) ∧
  (∀ (s u : State) (src : Source) (f p : List Byte), s.Takes src 80 f u p →
    p.length < 3 ∨ 1 < fieldAt p 2 1 ∨ 5 ≤ fieldAt p 0 1 ∨ 5 ≤ fieldAt p 1 1 →
    Sys2Proof.Machine.exec (.zoneMatrixWrite src) s = .next (u.answer src f 80 .range [])) ∧
  (∀ (s u : State) (src : Source) (f p : List Byte), s.Takes src 81 f u p →
    p.length < 1 ∨ 2 < fieldAt p 0 1 ∨ (fieldAt p 0 1 = 1 ∧ (p.length < 2 ∨ 24 ≤ fieldAt p 1 1)) ∨
      (fieldAt p 0 1 = 2 ∧ p.length < 7) →
    Sys2Proof.Machine.exec (.addressFlush src) s = .next (u.answer src f 81 .range [])) ∧
  (∀ (s u : State) (src : Source) (f p : List Byte), s.Takes src 81 f u p → 7 ≤ p.length → fieldAt p 0 1 = 2 →
    u.addresses.get? (stationAt p 1).toNat = none →
    Sys2Proof.Machine.exec (.addressFlush src) s = .next (u.answer src f 81 .unknown []))

/-! ### Tills, items and loads -/

/-- A Sign-On of an Absent till, of a new one while the table has room, or of a new one in place of the first record that may be
reclaimed, signs it on at the arrival port, the till that was on that port becoming Absent, and is answered Accepted with the
Last fields; a till already on that port is answered Accepted and stays; one Signed-On on another port is a Conflict; a number
outside 1-999 is Invalid; a full table is Full; and while the Recovery Scan runs every Sign-On is Held. Invalid, Conflict and
Full count TILL-REFUSED (R56, R57, R58). That the count comes before the reply is log 37, and the 2-byte body is log 24. A
Sign-Off that passes the checks of R53 makes the till Signed-On on its arrival port Absent, its Last fields kept, and otherwise
changes nothing and counts TILL-REFUSED. It has no reply (R59). That its body carries 2 bytes, any other length being a message
error, is the model's reading (log 24). -/
def Obligations.SignOnPutsTheTillOnItsPort : Prop :=
  (∀ (s u v : State) (n : Fin 16) (f : List Byte) (number : Nat) (x : Till), s.Heard (.t n) 0x01 f →
    u = s.takeHanded (.t n) → (frameBody f).length = 2 → number = fieldAt (frameBody f) 0 2 → u.journal.scan = none →
    1 ≤ number → number ≤ 999 →
    (u.tills.get? number = some x ∧ x.port = none) ∨
      (u.tills.get? number = none ∧ u.tills.length < 32 ∧ x = ⟨none, none, none⟩) →
    v = { u with
      tills := Table.put number { x with port := some n }
        (u.tills.mapRecords (fun r => if r.port = some n then { r with port := none } else r)) } →
    Sys2Proof.Machine.exec (.signOn n) s = .next (v.send 0x02 (.t n) (frameSource f) (frameTag f)
      ([3#8, 0#8] ++ beOption 4 x.lastTransaction ++ beOption 4 x.lastSequence)).1) ∧
  (∀ (s u v : State) (n : Fin 16) (f : List Byte) (number old : Nat) (y : Till), s.Heard (.t n) 0x01 f →
    u = s.takeHanded (.t n) → (frameBody f).length = 2 → number = fieldAt (frameBody f) 0 2 → u.journal.scan = none →
    1 ≤ number → number ≤ 999 → u.tills.get? number = none → 32 ≤ u.tills.length →
    u.tills.find? (fun kv => reclaimable u.journal kv.2) = some (old, y) →
    v = { u with
      tills := Table.put number ⟨some n, none, none⟩
        ((Table.del old u.tills).mapRecords (fun r => if r.port = some n then { r with port := none } else r)) } →
    Sys2Proof.Machine.exec (.signOn n) s = .next (v.send 0x02 (.t n) (frameSource f) (frameTag f)
      ([3#8, 0#8] ++ beOption 4 none ++ beOption 4 none)).1) ∧
  (∀ (s u : State) (n : Fin 16) (f : List Byte) (number : Nat) (x : Till), s.Heard (.t n) 0x01 f →
    u = s.takeHanded (.t n) → (frameBody f).length = 2 → number = fieldAt (frameBody f) 0 2 → u.journal.scan = none →
    1 ≤ number → number ≤ 999 → u.tills.get? number = some x → x.port = some n →
    Sys2Proof.Machine.exec (.signOn n) s = .next (u.send 0x02 (.t n) (frameSource f) (frameTag f)
      ([3#8, 0#8] ++ beOption 4 x.lastTransaction ++ beOption 4 x.lastSequence)).1) ∧
  (∀ (s u : State) (n : Fin 16) (f : List Byte) (number : Nat) (result : Byte), s.Heard (.t n) 0x01 f →
    u = s.takeHanded (.t n) → (frameBody f).length = 2 → number = fieldAt (frameBody f) 0 2 → u.journal.scan = none →
    (result = 1#8 ∧ (number = 0 ∨ 999 < number)) ∨
      (result = 2#8 ∧ 1 ≤ number ∧ number ≤ 999 ∧
        ∃ x m, u.tills.get? number = some x ∧ x.port = some m ∧ m ≠ n) ∨
      (result = 4#8 ∧ 1 ≤ number ∧ number ≤ 999 ∧ u.tills.get? number = none ∧ 32 ≤ u.tills.length ∧
        ∀ kv ∈ u.tills, reclaimable u.journal kv.2 = false) →
    Sys2Proof.Machine.exec (.signOn n) s = .next ((u.count .tillRefused).send 0x02 (.t n) (frameSource f) (frameTag f)
      ([result, 0#8] ++ beOption 4 none ++ beOption 4 none)).1) ∧
  (∀ (s u : State) (n : Fin 16) (f : List Byte), s.Heard (.t n) 0x01 f → u = s.takeHanded (.t n) →
    (frameBody f).length = 2 → u.journal.scan.isSome = true →
    Sys2Proof.Machine.exec (.signOn n) s = .next (u.send 0x02 (.t n) (frameSource f) (frameTag f)
      ([0#8, 0#8] ++ beOption 4 none ++ beOption 4 none)).1) ∧
  (∀ (j : Journal) (x : Till), reclaimable j x = true ↔ x.port = none ∧
    (x.lastSequence = none ∨ j.slots = [] ∨
      ∃ q, x.lastSequence = some q ∧ (q < j.nextValue - j.slots.length ∨ j.nextValue - 1 < q))) ∧
  (∀ (s u : State) (n : Fin 16) (f : List Byte) (number : Nat) (x : Till), s.Heard (.t n) 0x03 f →
    u = s.takeHanded (.t n) → (frameBody f).length = 2 → number = fieldAt (frameBody f) 0 2 →
    u.tills.get? number = some x → x.port = some n →
    Sys2Proof.Machine.exec (.signOff n) s =
      .next { u with tills := Table.put number ⟨none, x.lastTransaction, x.lastSequence⟩ u.tills }) ∧
  (∀ (s u : State) (n : Fin 16) (f : List Byte) (number : Nat), s.Heard (.t n) 0x03 f → u = s.takeHanded (.t n) →
    (frameBody f).length = 2 → number = fieldAt (frameBody f) 0 2 → (∀ x, u.tills.get? number = some x → x.port ≠ some n) →
    Sys2Proof.Machine.exec (.signOff n) s = .next (u.count .tillRefused)) ∧
  (∀ (s u : State) (n : Fin 16) (f : List Byte), s.isUp (.t n) = true → s.firstHanded (.t n) = some f →
    frameKind f = 0x03 → u = s.takeHanded (.t n) → envelopeOk f = false ∨ (frameBody f).length ≠ 2 →
    Sys2Proof.Machine.exec (.signOff n) s = .next { u with priceErrors := min (u.priceErrors + 1) 65535 }) ∧
  (∀ (s : State) (n : Fin 16) (f : List Byte), s.isUp (.t n) = false → s.firstHanded (.t n) = some f →
    frameKind f = 0x03 → Sys2Proof.Machine.exec (.signOff n) s = .next (s.takeHanded (.t n)))

/-- A Price Query on a port with a till Signed-On is answered code by code: Unknown without an item that has an Active Price,
Blocked without a price, else Priced at the Ceiling, which is the Active Price or a lower Shelf Floor; on another port every
code is answered Refused and TILL-REFUSED is counted (R52, R53, R54). That the byte of Weighed, Age-Check and Basis is 0 in an
entry that is not Priced is the model's choice (log 60). That the count and its notice come before the answer is the model's
choice (log 37). -/
def Obligations.PriceQueriesAreAnsweredAtTheCeiling : Prop :=
  (∀ (s u : State) (n : Fin 16) (f : List Byte) (codes : List Nat), s.Heard (.t n) 0x04 f → u = s.takeHanded (.t n) →
    queryCodes? f = some codes → (u.tillOn n).isSome = true →
    Sys2Proof.Machine.exec (.priceQuery n) s = .next (u.send 0x05 (.t n) (frameSource f) (frameTag f)
      (be 1 codes.length ++ [0#8] ++ codes.flatMap u.answerCode)).1) ∧
  (∀ (s u : State) (n : Fin 16) (f : List Byte) (codes : List Nat), s.Heard (.t n) 0x04 f → u = s.takeHanded (.t n) →
    queryCodes? f = some codes → u.tillOn n = none →
    Sys2Proof.Machine.exec (.priceQuery n) s = .next ((u.count .tillRefused).send 0x05 (.t n) (frameSource f) (frameTag f)
      (be 1 codes.length ++ [0#8] ++ codes.flatMap (fun c => answerEntry c 3 0 0))).1) ∧
  (∀ (s : State) (code k price : Nat) (it : Item), 1 ≤ code → code ≤ 9999999999999 → s.findItem code = some (k, it) →
    it.active = some price → it.flags.blocked = false → (∀ x, it.floor = some x → price ≤ x) →
    s.answerCode code = answerEntry code 0 (flagByte [it.flags.weighed, it.flags.ageCheck]) price) ∧
  (∀ (s : State) (code k price x : Nat) (it : Item), 1 ≤ code → code ≤ 9999999999999 → s.findItem code = some (k, it) →
    it.active = some price → it.flags.blocked = false → it.floor = some x → x < price →
    s.answerCode code = answerEntry code 0 (flagByte [it.flags.weighed, it.flags.ageCheck] + 128) x) ∧
  (∀ (s : State) (code k price : Nat) (it : Item), 1 ≤ code → code ≤ 9999999999999 → s.findItem code = some (k, it) →
    it.active = some price → it.flags.blocked = true → s.answerCode code = answerEntry code 1 0 0) ∧
  (∀ (s : State) (code : Nat), (∀ k it, s.findItem code = some (k, it) → it.active = none) →
    s.answerCode code = answerEntry code 2 0 0)

/-- Item Write sets the Active Price and flags of an item, or makes a new one at the lowest free index; Price Change sets the
Active Price alone; a change of the Active Price puts a Current label to fresh work. Item Delete removes the item and detaches
its labels. A load another source has open excludes them: an Item Write and a Price Change of a known item are refused with
NotOwner, an Item Delete of a known item with State. A code outside 1-9,999,999,999,999, a price above 9,999,999, flags outside
their list and a body too short are refused with Range, a code that no item has with Unknown, a new item at 32,768 with Full,
and a Price Change of an item with no Active Price with State (R51, R62, R63, R65, R66, R70, R100). The width of the item index
in the results is the model's choice (log 9). -/
def Obligations.ItemRequestsChangeTheItem : Prop :=
  (∀ (s u : State) (src : Source) (f p : List Byte) (k : Nat) (it : Item) (fl : ItemFlags), s.Takes src 32 f u p →
    11 ≤ p.length → codeOk (fieldAt p 0 6) = true → fieldAt p 6 4 ≤ 9999999 → itemFlagsOf? (fieldAt p 10 1) = some fl →
    u.excludes src = false → u.findItem (fieldAt p 0 6) = some (k, it) →
    ∃ t : State, Sys2Proof.Machine.exec (.itemWrite src) s = .next (t.answer src f 32 .done (be 2 k)) ∧
    OnlyLabelsMoved u t ∧ t.items = Table.put k { it with active := some (fieldAt p 6 4), flags := fl } u.items ∧
    (it.active = some (fieldAt p 6 4) → t.labels = u.labels ∧ t.links = u.links) ∧
    (it.active ≠ some (fieldAt p 6 4) → t = State.priceNotice { u with
      items := Table.put k { it with active := some (fieldAt p 6 4), flags := fl } u.items } k)) ∧
  (∀ (s u : State) (src : Source) (f p : List Byte) (fl : ItemFlags), s.Takes src 32 f u p →
    11 ≤ p.length → codeOk (fieldAt p 0 6) = true → fieldAt p 6 4 ≤ 9999999 → itemFlagsOf? (fieldAt p 10 1) = some fl →
    u.excludes src = false → u.findItem (fieldAt p 0 6) = none → u.items.length < 32768 →
    Sys2Proof.Machine.exec (.itemWrite src) s = .next (State.answer { u with
      items := Table.put u.items.lowestFree ⟨fieldAt p 0 6, some (fieldAt p 6 4), fl, none, [], none⟩ u.items }
      src f 32 .done (be 2 u.items.lowestFree))) ∧
  (∀ (s u : State) (src : Source) (f p : List Byte) (fl : ItemFlags), s.Takes src 32 f u p →
    11 ≤ p.length → codeOk (fieldAt p 0 6) = true → fieldAt p 6 4 ≤ 9999999 → itemFlagsOf? (fieldAt p 10 1) = some fl →
    u.excludes src = true → Sys2Proof.Machine.exec (.itemWrite src) s = .next (u.answer src f 32 .notOwner [])) ∧
  (∀ (s u : State) (src : Source) (f p : List Byte) (k : Nat) (it : Item), s.Takes src 35 f u p → 10 ≤ p.length →
    codeOk (fieldAt p 0 6) = true → fieldAt p 6 4 ≤ 9999999 → u.findItem (fieldAt p 0 6) = some (k, it) →
    u.excludes src = true → Sys2Proof.Machine.exec (.priceChange src) s = .next (u.answer src f 35 .notOwner [])) ∧
  (∀ (s u : State) (src : Source) (f p : List Byte) (k : Nat) (it : Item), s.Takes src 34 f u p → 6 ≤ p.length →
    codeOk (fieldAt p 0 6) = true → u.findItem (fieldAt p 0 6) = some (k, it) →
    u.excludes src = true → Sys2Proof.Machine.exec (.itemDelete src) s = .next (u.answer src f 34 .state [])) ∧
  (∀ (s : State) (src : Source), s.excludes src = true ↔ ∃ o, s.load.owner = some o ∧ o ≠ src) ∧
  (∀ (s u : State) (src : Source) (f p : List Byte) (k old : Nat) (it : Item), s.Takes src 35 f u p → 10 ≤ p.length →
    codeOk (fieldAt p 0 6) = true → fieldAt p 6 4 ≤ 9999999 → u.excludes src = false →
    u.findItem (fieldAt p 0 6) = some (k, it) → it.active = some old →
    ∃ t : State, Sys2Proof.Machine.exec (.priceChange src) s = .next (t.answer src f 35 .done (be 2 k)) ∧
    OnlyLabelsMoved u t ∧ t.items = Table.put k { it with active := some (fieldAt p 6 4) } u.items ∧
    (∀ id i l, it.labels = [id] → u.findLabel id = some (i, l) → l.state = .current → old ≠ fieldAt p 6 4 →
      u.queueRoom l.link = true →
      t.labels = Table.put i { l with state := .queued, attempts := 0 } u.labels ∧
      (t.link l.link).queue = (u.link l.link).queue ++ [i])) ∧
  (∀ (s u : State) (src : Source) (f p : List Byte) (k : Nat) (it : Item), s.Takes src 34 f u p → 6 ≤ p.length →
    codeOk (fieldAt p 0 6) = true → u.excludes src = false → u.findItem (fieldAt p 0 6) = some (k, it) → u.TablesCanonical →
    ∃ t : State, Sys2Proof.Machine.exec (.itemDelete src) s = .next (t.answer src f 34 .done []) ∧
    OnlyLabelsMoved u t ∧ t.items.get? k = none ∧
    (∀ id ∈ it.labels, ∀ i l, u.findLabel id = some (i, l) →
      t.labels.get? i = some { l with item := none, attempts := 0, state := .unassigned })) ∧
  -- Refusals, in the order in which they are judged (R51, R62, R63, R65, R70).
  (∀ (s u : State) (src : Source) (f p : List Byte), s.Takes src 32 f u p →
    p.length < 11 ∨ codeOk (fieldAt p 0 6) = false ∨ 9999999 < fieldAt p 6 4 ∨ itemFlagsOf? (fieldAt p 10 1) = none →
    Sys2Proof.Machine.exec (.itemWrite src) s = .next (u.answer src f 32 .range [])) ∧
  (∀ (s u : State) (src : Source) (f p : List Byte) (fl : ItemFlags), s.Takes src 32 f u p →
    11 ≤ p.length → codeOk (fieldAt p 0 6) = true → fieldAt p 6 4 ≤ 9999999 → itemFlagsOf? (fieldAt p 10 1) = some fl →
    u.excludes src = false → u.findItem (fieldAt p 0 6) = none → 32768 ≤ u.items.length →
    Sys2Proof.Machine.exec (.itemWrite src) s = .next (u.answer src f 32 .full [])) ∧
  (∀ (s u : State) (src : Source) (f p : List Byte), s.Takes src 35 f u p →
    p.length < 10 ∨ codeOk (fieldAt p 0 6) = false ∨ 9999999 < fieldAt p 6 4 →
    Sys2Proof.Machine.exec (.priceChange src) s = .next (u.answer src f 35 .range [])) ∧
  (∀ (s u : State) (src : Source) (f p : List Byte), s.Takes src 35 f u p → 10 ≤ p.length →
    codeOk (fieldAt p 0 6) = true → fieldAt p 6 4 ≤ 9999999 → u.findItem (fieldAt p 0 6) = none →
    Sys2Proof.Machine.exec (.priceChange src) s = .next (u.answer src f 35 .unknown [])) ∧
  (∀ (s u : State) (src : Source) (f p : List Byte) (k : Nat) (it : Item), s.Takes src 35 f u p → 10 ≤ p.length →
    codeOk (fieldAt p 0 6) = true → fieldAt p 6 4 ≤ 9999999 → u.findItem (fieldAt p 0 6) = some (k, it) →
    u.excludes src = false → it.active = none →
    Sys2Proof.Machine.exec (.priceChange src) s = .next (u.answer src f 35 .state [])) ∧
  (∀ (s u : State) (src : Source) (f p : List Byte), s.Takes src 34 f u p →
    p.length < 6 ∨ codeOk (fieldAt p 0 6) = false →
    Sys2Proof.Machine.exec (.itemDelete src) s = .next (u.answer src f 34 .range [])) ∧
  (∀ (s u : State) (src : Source) (f p : List Byte), s.Takes src 34 f u p → 6 ≤ p.length →
    codeOk (fieldAt p 0 6) = true → u.findItem (fieldAt p 0 6) = none →
    Sys2Proof.Machine.exec (.itemDelete src) s = .next (u.answer src f 34 .unknown [])) ∧
  (∀ c : Nat, codeOk c = true ↔ 1 ≤ c ∧ c ≤ 9999999999999) ∧
  (∀ (b : Nat) (fl : ItemFlags), itemFlagsOf? b = some fl ↔ b < 8 ∧ fl.blocked = b.testBit 0 ∧ fl.weighed = b.testBit 1 ∧
    fl.ageCheck = b.testBit 2)

/-- Load Begin opens the load for its source; a Load Part of the owner applies its writes one after another and restarts the
Timer; Load End of the owner ends it and reports the counts; a Timer at 0 lapses it with TXN-TIMEOUT counted. A second Begin is
Busy, and another source's Part or End NotOwner; with no load open a Part and an End are refused with State, and a Part whose
count is not 1-16 or whose body is too short with Range. Each write of a Load Part is refused alone with Range or Full, or taken
with its item's index, an item written with another Active Price giving its labels a price notice (R51, R62, R66, R67, R68, R69,
11.2). The count byte and the 11-byte writes of a Load Part and the widths in Load End's results are the model's choice (log 9),
and so is where a too-short Load Part is refused (log 38). -/
def Obligations.LoadsOpenRunAndEnd : Prop :=
  (∀ (s u : State) (src : Source) (f p : List Byte), s.Takes src 36 f u p → u.load.owner = none →
    Sys2Proof.Machine.exec (.loadBegin src) s = .next (State.answer { u with
      load := ⟨some src, u.settings.loadTimer, 0, 0, 0, 0⟩ } src f 36 .done [])) ∧
  (∀ (s u : State) (src o : Source) (f p : List Byte), s.Takes src 36 f u p → u.load.owner = some o →
    Sys2Proof.Machine.exec (.loadBegin src) s = .next (u.answer src f 36 .busy [])) ∧
  (∀ (s u : State) (src : Source) (f p : List Byte), s.Takes src 37 f u p → u.load.owner = some src →
    1 ≤ fieldAt p 0 1 → fieldAt p 0 1 ≤ 16 → 1 + 11 * fieldAt p 0 1 ≤ p.length →
    ∃ (t : State) (applied : Nat) (results : List Byte),
    loadWrites (piecesAt p 1 11 (fieldAt p 0 1)) u = (t, applied, results) ∧ OnlyLabelsMoved u t ∧
    applied ≤ fieldAt p 0 1 ∧
    Sys2Proof.Machine.exec (.loadPart src) s = .next (State.answer { t with
      load := ⟨some src, u.settings.loadTimer, 0, min (u.load.parts + 1) 65535, min (u.load.applied + applied) 1048560,
        min (u.load.refused + (fieldAt p 0 1 - applied)) 1048560⟩ } src f 37 .done results)) ∧
  (∀ (s u : State) (src o : Source) (f p : List Byte), s.Takes src 37 f u p → 1 ≤ p.length → u.load.owner = some o →
    o ≠ src → Sys2Proof.Machine.exec (.loadPart src) s = .next (u.answer src f 37 .notOwner [])) ∧
  (∀ (s u : State) (src : Source) (f p : List Byte), s.Takes src 38 f u p → u.load.owner = some src →
    Sys2Proof.Machine.exec (.loadEnd src) s = .next (State.answer { u with
      load := { u.load with owner := none, timer := 0, phase := 0 } } src f 38 .done
      (be 2 u.load.parts ++ be 4 u.load.applied ++ be 4 u.load.refused))) ∧
  (∀ (s u : State) (src o : Source) (f p : List Byte), s.Takes src 38 f u p → u.load.owner = some o → o ≠ src →
    Sys2Proof.Machine.exec (.loadEnd src) s = .next (u.answer src f 38 .notOwner [])) ∧
  (∀ (s : State) (o : Source), s.load.owner = some o → s.load.timer = 0 →
    ∃ t : State, Sys2Proof.Machine.exec .loadTransactionLapse s = .next t ∧
    Spoken (State.raise { s with load := { s.load with owner := none, phase := 0 } } .txnTimeout 1) t) ∧
  (∀ s : State, loadWrites [] s = (s, 0, [])) ∧
  (∀ (s t v : State) (e results : List Byte) (es : List (List Byte)) (taken : Bool) (bytes : List Byte) (n : Nat),
    s.loadWrite e = (t, taken, bytes) → loadWrites es t = (v, n, results) →
    loadWrites (e :: es) s = (v, (if taken then 1 else 0) + n, bytes ++ results)) ∧
  (∀ (s : State) (e : List Byte), itemFlagsOf? (fieldAt e 10 1) = none ∨ codeOk (fieldAt e 0 6) = false ∨
    9999999 < fieldAt e 6 4 → s.loadWrite e = (s, false, [1#8])) ∧
  (∀ (s t : State) (e : List Byte) (fl : ItemFlags) (index : Option Nat), itemFlagsOf? (fieldAt e 10 1) = some fl →
    codeOk (fieldAt e 0 6) = true → fieldAt e 6 4 ≤ 9999999 →
    s.writeItem (fieldAt e 0 6) (fieldAt e 6 4) fl = (t, index) →
    s.loadWrite e = (match index with
      | some k => (t, true, 0#8 :: be 2 k)
      | none => (t, false, [2#8]))) ∧
  (∀ (s u : State) (src : Source) (f p : List Byte), s.Takes src 37 f u p →
    p.length < 1 ∨ (u.load.owner = some src ∧
      (fieldAt p 0 1 = 0 ∨ 16 < fieldAt p 0 1 ∨ p.length < 1 + 11 * fieldAt p 0 1)) →
    Sys2Proof.Machine.exec (.loadPart src) s = .next (u.answer src f 37 .range [])) ∧
  (∀ (s u : State) (src : Source) (f p : List Byte), s.Takes src 37 f u p → 1 ≤ p.length → u.load.owner = none →
    Sys2Proof.Machine.exec (.loadPart src) s = .next (u.answer src f 37 .state [])) ∧
  (∀ (s u : State) (src : Source) (f p : List Byte), s.Takes src 38 f u p → u.load.owner = none →
    Sys2Proof.Machine.exec (.loadEnd src) s = .next (u.answer src f 38 .state [])) ∧
  -- What one write does (R51, R62, R66).
  (∀ (s v : State) (code price k : Nat) (fl : ItemFlags) (it : Item), s.findItem code = some (k, it) →
    v = { s with items := Table.put k { it with active := some price, flags := fl } s.items } →
    s.writeItem code price fl = (if it.active = some price then v else v.priceNotice k, some k)) ∧
  (∀ (s : State) (code price : Nat) (fl : ItemFlags), s.findItem code = none → s.items.length < 32768 →
    s.writeItem code price fl = ({ s with
      items := Table.put s.items.lowestFree ⟨code, some price, fl, none, [], none⟩ s.items }, some s.items.lowestFree)) ∧
  (∀ (s : State) (code price : Nat) (fl : ItemFlags), s.findItem code = none → 32768 ≤ s.items.length →
    s.writeItem code price fl = (s, none)) ∧
  (∀ (s : State) (k : Nat) (it : Item), s.items.get? k = some it → s.priceNotice k = it.labels.foldl State.noticeLabel s)

/-! ### The journal -/

/-- A Sale Record that passes its checks takes the next sequence: the record is stored at the newest end with its lines flagged
and counted, Store Time and its check value, and the till's Last fields move to it; a store that reaches the High Mark from
below counts JOURNAL-HIGH, and each one at or above it asks for a Trickle session, which starts where the enable is set, the
store is Trading and no session is active; the Receipt says Stored, the sequence and the two line counts. Every other record
stores nothing, and its Receipt and its count are those of the first check it fails: Held, Scanning; Refused, Not-Signed-On;
Refused, Malformed; Duplicate, with the till's Last Journal Sequence; Refused, Out-of-Order, with its Last Transaction Number;
Held, Full, Exhausted or Unverified. A line is flagged Unknown where no live item has its code; else Blocked where the item is
Blocked; else Overcharge where its Quantity is positive, Override is no and its price lies above the Ceiling (R75-R83, R144).
What the stored check value runs over is the model's reading (log 8), that a count comes before its receipt the model's choice
(log 37), and so are the numbers of a body too short for them (log 24) and the two line counts, 0, of a Receipt other than
Stored (log 55). -/
def Obligations.SalesAreStoredInSequence : Prop :=
  (∀ (s u : State) (n : Fin 16) (f : List Byte) (o : SaleOffer) (x : Till) (q : Nat) (tender : Tender) (r : SaleRecord),
    s.Heard (.t n) 0x06 f → u = s.takeHanded (.t n) → o = saleOffer (frameBody f) → u.journal.scan = none →
    u.tills.get? o.till = some x → x.port = some n → 1 ≤ o.till → o.till ≤ 999 → saleWellFormed o = true →
    (∀ last, x.lastTransaction = some last → last < o.transaction) → u.journal.slots.length < 16384 →
    u.journal.nextSequence = some q → tenderOf? o.tender = some tender →
    u.journal.overflowMark = none ∨ x.lastTransaction.isSome = true →
    r = { sequence := q, till := o.till, transaction := o.transaction, stamp := u.clock.now, timeValid := u.clock.valid,
          tender := tender, total := o.total, lines := o.lines.map (fun e => u.flagLine (offeredLine e)),
          overchargeCount := (o.lines.map (fun e => u.flagLine (offeredLine e))).countP Line.overcharge,
          blockedCount := (o.lines.map (fun e => u.flagLine (offeredLine e))).countP Line.blocked } →
    ∃ t v : State, Sys2Proof.Machine.exec (.saleRecord n) s = .next t ∧
    t = (v.send 0x07 (.t n) (frameSource f) (frameTag f) (be 2 o.till ++ be 4 o.transaction ++
      (be 1 0 ++ be 1 0 ++ be 4 q ++ be 4 0 ++ be 1 r.overchargeCount ++ be 1 r.blockedCount))).1 ∧
    (∀ k, k ∈ [EventKind.overcharge, .blockedSale] → ∀ m, m = (if k = .overcharge then r.overchargeCount else r.blockedCount) →
      t.counter k = if m = 0 then u.counter k else min (u.counter k + m) 65535) ∧
    t.counter .journalHigh = (if u.journal.slots.length + 1 = u.settings.highMark
      then min (u.counter .journalHigh + 1) 65535 else u.counter .journalHigh) ∧
    (u.settings.highMark ≤ u.journal.slots.length + 1 → u.settings.management.trickle = true → u.mode = .trading →
      u.session.state.active = false → t.session.type = some .trickle ∧ t.session.state = .opening ∧
      t.session.openTag = wrap16 u.session.openTag ∧ t.session.reportAsked = true) ∧
    (u.journal.slots.length + 1 < u.settings.highMark ∨ u.settings.management.trickle = false ∨ u.mode = .closed ∨
      u.session.state.active = true → t.session = u.session) ∧
    t.journal = { u.journal with
      slots := u.journal.slots ++ [⟨r, slotCheck r⟩]
      nextSequence := if q < 4294967295 then some (q + 1) else none } ∧
    t.tills = Table.put o.till ⟨some n, some o.transaction, some q⟩ u.tills ∧
    t.items = u.items ∧ t.labels = u.labels ∧ t.clock = u.clock ∧ t.guests = u.guests ∧ t.batch = u.batch) ∧
  (∀ (s u : State) (n : Fin 16) (f : List Byte) (o : SaleOffer) (x : Till),
    s.Heard (.t n) 0x06 f → u = s.takeHanded (.t n) → o = saleOffer (frameBody f) → u.journal.scan = none →
    u.tills.get? o.till = some x → x.port = some n → 1 ≤ o.till → o.till ≤ 999 → saleWellFormed o = true →
    x.lastTransaction = some o.transaction →
    ∃ t : State, Sys2Proof.Machine.exec (.saleRecord n) s = .next t ∧ Spoken (u.raise .duplicateSale 1) t) ∧
  (∀ (s u : State) (n : Fin 16) (f : List Byte) (o : SaleOffer) (k : EventKind) (status reason sequence last : Nat),
    s.Heard (.t n) 0x06 f → u = s.takeHanded (.t n) → o = saleOffer (frameBody f) →
    (u.journal.scan.isSome = true ∧ k = .journalHeld ∧ (status, reason, sequence, last) = (3, 1, 0, 0)) ∨
    (u.journal.scan = none ∧ (∀ x, u.tills.get? o.till = some x → x.port ≠ some n ∨ o.till = 0 ∨ 999 < o.till) ∧
      k = .tillRefused ∧ (status, reason, sequence, last) = (2, 1, 0, 0)) →
    Sys2Proof.Machine.exec (.saleRecord n) s = .next ((u.count k).send 0x07 (.t n) (frameSource f) (frameTag f)
      (be 2 o.till ++ be 4 o.transaction ++
        (be 1 status ++ be 1 reason ++ be 4 sequence ++ be 4 last ++ be 1 0 ++ be 1 0))).1) ∧
  (∀ (s u : State) (n : Fin 16) (f : List Byte) (o : SaleOffer) (x : Till) (k : EventKind) (status reason sequence last : Nat),
    s.Heard (.t n) 0x06 f → u = s.takeHanded (.t n) → o = saleOffer (frameBody f) → u.journal.scan = none →
    u.tills.get? o.till = some x → x.port = some n → 1 ≤ o.till → o.till ≤ 999 →
    (saleWellFormed o = false ∧ k = .tillRefused ∧ (status, reason, sequence, last) = (2, 2, 0, 0)) ∨
    (saleWellFormed o = true ∧ x.lastTransaction = some o.transaction ∧ k = .duplicateSale ∧
      (status, reason, sequence, last) = (1, 0, x.lastSequence.getD 0, 0)) ∨
    (saleWellFormed o = true ∧ (∃ m, x.lastTransaction = some m ∧ o.transaction < m ∧
      (status, reason, sequence, last) = (2, 3, 0, m)) ∧ k = .tillRefused) ∨
    (saleWellFormed o = true ∧ (∀ m, x.lastTransaction = some m → m < o.transaction) ∧ k = .journalHeld ∧
      ((16384 ≤ u.journal.slots.length ∧ (status, reason, sequence, last) = (3, 2, 0, 0)) ∨
       (u.journal.slots.length < 16384 ∧ u.journal.nextSequence = none ∧ (status, reason, sequence, last) = (3, 3, 0, 0)) ∨
       (u.journal.slots.length < 16384 ∧ u.journal.nextSequence.isSome = true ∧ u.journal.overflowMark.isSome = true ∧
        x.lastTransaction = none ∧ (status, reason, sequence, last) = (3, 4, 0, 0)))) →
    Sys2Proof.Machine.exec (.saleRecord n) s = .next ((u.count k).send 0x07 (.t n) (frameSource f) (frameTag f)
      (be 2 o.till ++ be 4 o.transaction ++
        (be 1 status ++ be 1 reason ++ be 4 sequence ++ be 4 last ++ be 1 0 ++ be 1 0))).1) ∧
  (∀ o : SaleOffer, saleWellFormed o = true ↔ 1 ≤ o.transaction ∧ o.tender ≤ 3 ∧ 1 ≤ o.count ∧ o.count ≤ 48 ∧
    o.length = 14 + 16 * o.count ∧ ∀ e ∈ o.lines, 1 ≤ fieldAt e 0 6 ∧ fieldAt e 0 6 ≤ 9999999999999 ∧
      -1000000 ≤ signedAt e 6 ∧ signedAt e 6 ≤ 1000000 ∧ signedAt e 6 ≠ 0 ∧ fieldAt e 10 4 ≤ 9999999) ∧
  (∀ (s u : State) (n : Fin 16) (f : List Byte), s.isUp (.t n) = true → s.firstHanded (.t n) = some f → frameKind f = 0x06 →
    u = s.takeHanded (.t n) → envelopeOk f = false →
    Sys2Proof.Machine.exec (.saleRecord n) s = .next { u with journal := { u.journal with
      messageErrors := min (u.journal.messageErrors + 1) 65535 } }) ∧
  (∀ (u : State) (e : List Byte) (line : Line),
    line = ⟨fieldAt e 0 6, signedAt e 6, fieldAt e 10 4, decide (fieldAt e 14 1 % 2 = 1), false, false, false⟩ →
    offeredLine e = line ∧
    ((∀ k it, u.findItem line.code = some (k, it) → it.active = none) → u.flagLine line = { line with unknown := true }) ∧
    ∀ k it p ceiling, u.findItem line.code = some (k, it) → it.active = some p →
      ceiling = (match it.floor with
        | some low => min p low
        | none => p) →
      u.flagLine line = (if it.flags.blocked then { line with blocked := true }
        else if 0 < line.quantity ∧ line.override = false ∧ ceiling < line.unitPrice then { line with overcharge := true }
        else line))

/-- A slot whose check value holds and whose sequence is the one expected is kept, its till's Last fields rebuilt, and the scan
goes on or ends; a till with no record is given an Absent one, or, at a full Till Table, none, and the Overflow Mark takes the
record's sequence; a slot that fails cuts the journal there, RECOVERY-LOSS counting the records dropped (R61, R86, R87, R88,
R89). What the slot check value runs over is the model's reading (log 8); the damaged slot is an operand (log 16); Last Recovery
Loss kept until the scan ends is the model's choice (log 63). -/
def Obligations.RecoveryScanKeepsOrCuts : Prop :=
  (∀ (s : State) (damaged : Option Slot) (pos : Nat) (stored x : Slot) (till : Till), s.journal.scan = some pos →
    s.journal.slots[pos]? = some stored → x = damaged.getD stored → x.check = slotCheck x.record →
    x.record.sequence = s.journal.nextSequence.getD 4294967296 - s.journal.slots.length + pos →
    s.tills.get? x.record.till = some till →
    ∃ t : State, Sys2Proof.Machine.exec (.recoveryScanStep damaged) s = .next t ∧
    t.journal.slots = s.journal.slots.set pos x ∧ t.journal.nextSequence = s.journal.nextSequence ∧
    t.journal.scan = (if pos + 1 < s.journal.slots.length then some (pos + 1) else none) ∧
    t.journal.lastLoss = (if pos + 1 < s.journal.slots.length then s.journal.lastLoss else 0) ∧
    t.journal.overflowMark = s.journal.overflowMark ∧
    t.tills = Table.put x.record.till { till with
      lastTransaction := some x.record.transaction, lastSequence := some x.record.sequence } s.tills) ∧
  (∀ (s : State) (damaged : Option Slot) (pos : Nat) (stored x : Slot), s.journal.scan = some pos →
    s.journal.slots[pos]? = some stored → x = damaged.getD stored → x.check = slotCheck x.record →
    x.record.sequence = s.journal.nextSequence.getD 4294967296 - s.journal.slots.length + pos →
    s.tills.get? x.record.till = none →
    ∃ t : State, Sys2Proof.Machine.exec (.recoveryScanStep damaged) s = .next t ∧
    t.journal.slots = s.journal.slots.set pos x ∧ t.journal.nextSequence = s.journal.nextSequence ∧
    t.journal.scan = (if pos + 1 < s.journal.slots.length then some (pos + 1) else none) ∧
    t.journal.lastLoss = (if pos + 1 < s.journal.slots.length then s.journal.lastLoss else 0) ∧
    (s.tills.length < 32 → t.journal.overflowMark = s.journal.overflowMark ∧
      t.tills = Table.put x.record.till ⟨none, some x.record.transaction, some x.record.sequence⟩ s.tills) ∧
    (32 ≤ s.tills.length → t.journal.overflowMark = some x.record.sequence ∧ t.tills = s.tills)) ∧
  (∀ (s : State) (damaged : Option Slot) (pos expected : Nat) (stored x : Slot), s.journal.scan = some pos →
    s.journal.slots[pos]? = some stored → x = damaged.getD stored →
    expected = s.journal.nextSequence.getD 4294967296 - s.journal.slots.length + pos →
    x.check ≠ slotCheck x.record ∨ x.record.sequence ≠ expected →
    ∃ t : State, Sys2Proof.Machine.exec (.recoveryScanStep damaged) s = .next t ∧
    t.journal = { s.journal with
      slots := s.journal.slots.take pos, nextSequence := some expected, scan := none
      lastLoss := s.journal.slots.length - pos } ∧
    t.counter .recoveryLoss = min (s.counter .recoveryLoss + (s.journal.slots.length - pos)) 65535 ∧
    (∀ number x q, s.tills.get? number = some x → x.lastSequence = some q → expected ≤ q →
      t.tills.get? number = some { x with lastTransaction := none, lastSequence := none }))

/-! ### Labels and links -/

/-- Label Attach makes or takes a label of the table, joins it to the item's list and puts it to work, Stale where the item has
no Active Price, or, with LABEL-STALE counted, where its link's Work Queue is full; an attached label is detached first and so
moves to the item and link named, or to the end of its own item's list. Label Detach takes a label off its item and leaves it
Unassigned, out of the queue or the order of sending that held it, the item's Shelf Floor recomputed; Label Remove does the same
and removes its record; Label Resend puts a Current, Lost or Stale label of a live item to fresh work, leaves a Queued or Sent
one and one of an item with no Active Price, and refuses an Unassigned one with State, as Label Detach does one that is not
attached. A body too short, a Label ID 0, and a link or code outside its list are refused with Range; an unknown code or ID with
Unknown; a new label at 8,192 and a fifth label of an item with Full (R94, R95, R96, R98, R99, R101). The layout of the
parameters is the model's choice (log 9). -/
def Obligations.LabelRequestsChangeTheLabel : Prop :=
  (∀ (s u : State) (src : Source) (f p : List Byte) (id code k i : Nat) (l : LinkId) (it : Item), s.Takes src 48 f u p →
    u.TablesCanonical → 11 ≤ p.length → id = fieldAt p 0 4 → id ≠ 0 → linkOf? (fieldAt p 4 1) = some l →
    code = fieldAt p 5 6 → codeOk code = true → u.findItem code = some (k, it) → it.labels.length < 4 →
    (∃ lab, u.findLabel id = some (i, lab) ∧ lab.item = none) ∨
      (u.findLabel id = none ∧ u.labels.length < 8192 ∧ i = u.labels.lowestFree) →
    ∃ t : State, Sys2Proof.Machine.exec (.labelAttach src) s = .next (t.answer src f 48 .done (be 2 i)) ∧
    OnlyLabelsMoved u t ∧ (∀ j, j ≠ i → t.labels.get? j = u.labels.get? j) ∧
    (it.active.isSome = true → u.queueRoom l = true → t.labels.get? i = some ⟨id, l, some k, none, 0, .queued⟩ ∧
      (t.link l).queue = (u.link l).queue ++ [i]) ∧
    (it.active = none → t.labels.get? i = some ⟨id, l, some k, none, 0, .stale⟩ ∧ t.links = u.links) ∧
    (∃ it2, t.items.get? k = some it2 ∧ it2.labels = it.labels ++ [id] ∧ it2.active = it.active)) ∧
  (∀ (s u : State) (src : Source) (f p : List Byte) (i k : Nat) (lab : Label) (it : Item), s.Takes src 49 f u p →
    4 ≤ p.length → fieldAt p 0 4 ≠ 0 → u.findLabel (fieldAt p 0 4) = some (i, lab) → lab.item = some k →
    u.items.get? k = some it →
    ∃ t : State, Sys2Proof.Machine.exec (.labelDetach src) s = .next (t.answer src f 49 .done []) ∧ OnlyLabelsMoved u t ∧
    t.labels = Table.put i { lab with item := none, attempts := 0, state := .unassigned } u.labels ∧
    t.items.get? k = some { it with
      labels := it.labels.filter (fun x => decide (x ≠ lab.id))
      floor := t.lowestShown (it.labels.filter (fun x => decide (x ≠ lab.id))) } ∧
    (∀ j, j ≠ k → t.items.get? j = u.items.get? j)) ∧
  (∀ (s u : State) (src : Source) (f p : List Byte) (i : Nat) (lab : Label), s.Takes src 50 f u p → u.TablesCanonical →
    4 ≤ p.length → fieldAt p 0 4 ≠ 0 → u.findLabel (fieldAt p 0 4) = some (i, lab) →
    ∃ t : State, Sys2Proof.Machine.exec (.labelRemove src) s = .next (t.answer src f 50 .done []) ∧ OnlyLabelsMoved u t ∧
    t.labels.get? i = none ∧ (∀ j, j ≠ i → t.labels.get? j = u.labels.get? j)) ∧
  (∀ (s u : State) (src : Source) (f p : List Byte) (i price : Nat) (lab : Label), s.Takes src 51 f u p → 4 ≤ p.length →
    fieldAt p 0 4 ≠ 0 → u.findLabel (fieldAt p 0 4) = some (i, lab) →
    lab.state = .current ∨ lab.state = .lost ∨ lab.state = .stale → u.activeFor lab = some price →
    u.queueRoom lab.link = true →
    Sys2Proof.Machine.exec (.labelResend src) s = .next (State.answer { u with
      labels := Table.put i { lab with state := .queued, attempts := 0 } u.labels
      links := u.links.set lab.link { u.link lab.link with queue := (u.link lab.link).queue ++ [i] } } src f 51 .done [])) ∧
  (∀ (s u : State) (src : Source) (f p : List Byte) (i : Nat) (lab : Label), s.Takes src 51 f u p → 4 ≤ p.length →
    fieldAt p 0 4 ≠ 0 → u.findLabel (fieldAt p 0 4) = some (i, lab) →
    lab.state = .queued ∨ (∃ price count, lab.state = .sent price count) →
    Sys2Proof.Machine.exec (.labelResend src) s = .next (u.answer src f 51 .done [])) ∧
  (∀ (s u : State) (src : Source) (f p : List Byte) (i : Nat) (lab : Label), s.Takes src 51 f u p → 4 ≤ p.length →
    fieldAt p 0 4 ≠ 0 → u.findLabel (fieldAt p 0 4) = some (i, lab) → lab.state = .unassigned →
    Sys2Proof.Machine.exec (.labelResend src) s = .next (u.answer src f 51 .state [])) ∧
  -- A new or an Unassigned label for whose work the queue has no room (R99).
  (∀ (s u : State) (src : Source) (f p : List Byte) (id code k i : Nat) (l : LinkId) (it : Item), s.Takes src 48 f u p →
    u.TablesCanonical → 11 ≤ p.length → id = fieldAt p 0 4 → id ≠ 0 → linkOf? (fieldAt p 4 1) = some l →
    code = fieldAt p 5 6 → codeOk code = true → u.findItem code = some (k, it) → it.labels.length < 4 →
    (∃ lab, u.findLabel id = some (i, lab) ∧ lab.item = none) ∨
      (u.findLabel id = none ∧ u.labels.length < 8192 ∧ i = u.labels.lowestFree) →
    it.active.isSome = true → u.queueRoom l = false →
    ∃ t : State, Sys2Proof.Machine.exec (.labelAttach src) s = .next (t.answer src f 48 .done (be 2 i)) ∧
    OnlyLabelsMoved u t ∧ t.links = u.links ∧ t.labels.get? i = some ⟨id, l, some k, none, 0, .stale⟩ ∧
    t.counter .labelStale = min (u.counter .labelStale + 1) 65535) ∧
  -- An attached label moves to the item and the link named, which may be its own: it is detached first (R94, R95).
  (∀ (s u : State) (src : Source) (f p : List Byte) (id code k j i : Nat) (l : LinkId) (it itj : Item) (lab : Label)
      (r : LinkRecord) (ls : PerLink LinkRecord) (ids : List Nat) (work : Bool), s.Takes src 48 f u p →
    u.TablesCanonical → 11 ≤ p.length → id = fieldAt p 0 4 → id ≠ 0 → linkOf? (fieldAt p 4 1) = some l →
    code = fieldAt p 5 6 → codeOk code = true → u.findItem code = some (k, it) →
    u.findLabel id = some (i, lab) → lab.item = some j → u.items.get? j = some itj →
    it.labels.length < 4 ∨ it.labels.contains id = true →
    r = u.link lab.link →
    ls = u.links.set lab.link { r with
      queue := if lab.state = .queued then r.queue.filter (fun x => decide (x ≠ i)) else r.queue
      sentOrder := if lab.state.inFlight = true then r.sentOrder.filter (fun x => decide (x ≠ i))
        else r.sentOrder } →
    ids = (if j = k then it.labels.filter (fun x => decide (x ≠ id)) else it.labels) ++ [id] →
    work = (it.active.isSome && decide ((ls.get l).queue.length < 512)) →
    ∃ t : State, Sys2Proof.Machine.exec (.labelAttach src) s = .next (t.answer src f 48 .done (be 2 i)) ∧
    OnlyLabelsMoved u t ∧ (∀ x, x ≠ i → t.labels.get? x = u.labels.get? x) ∧
    t.labels.get? i = some ⟨id, l, some k, none, 0, if work then .queued else .stale⟩ ∧
    t.links = (if work then ls.set l { ls.get l with queue := (ls.get l).queue ++ [i] } else ls) ∧
    t.items.get? k = some { it with labels := ids, floor := t.lowestShown ids } ∧
    (j ≠ k → t.items.get? j = some { itj with
      labels := itj.labels.filter (fun x => decide (x ≠ id))
      floor := t.lowestShown (itj.labels.filter (fun x => decide (x ≠ id))) }) ∧
    (∀ x, x ≠ j → x ≠ k → t.items.get? x = u.items.get? x) ∧
    t.counter .labelStale = (if it.active.isSome = true ∧ work = false then min (u.counter .labelStale + 1) 65535
      else u.counter .labelStale)) ∧
  -- Refusals, in the order in which they are judged (R94).
  (∀ (s u : State) (src : Source) (f p : List Byte), s.Takes src 48 f u p →
    p.length < 11 ∨ fieldAt p 0 4 = 0 ∨ 2 ≤ fieldAt p 4 1 ∨ codeOk (fieldAt p 5 6) = false →
    Sys2Proof.Machine.exec (.labelAttach src) s = .next (u.answer src f 48 .range [])) ∧
  (∀ (s u : State) (src : Source) (f p : List Byte), s.Takes src 48 f u p → 11 ≤ p.length → fieldAt p 0 4 ≠ 0 →
    fieldAt p 4 1 < 2 → codeOk (fieldAt p 5 6) = true → u.findItem (fieldAt p 5 6) = none →
    Sys2Proof.Machine.exec (.labelAttach src) s = .next (u.answer src f 48 .unknown [])) ∧
  (∀ (s u : State) (src : Source) (f p : List Byte) (k : Nat) (it : Item), s.Takes src 48 f u p → 11 ≤ p.length →
    fieldAt p 0 4 ≠ 0 → fieldAt p 4 1 < 2 → codeOk (fieldAt p 5 6) = true → u.findItem (fieldAt p 5 6) = some (k, it) →
    (u.findLabel (fieldAt p 0 4) = none ∧ 8192 ≤ u.labels.length) ∨
      (4 ≤ it.labels.length ∧ it.labels.contains (fieldAt p 0 4) = false) →
    Sys2Proof.Machine.exec (.labelAttach src) s = .next (u.answer src f 48 .full [])) ∧
  -- Detach, Remove and Resend: a body too short or Label ID 0, and an ID that no record has (R95, R96, R101).
  (∀ (c : Instr) (op : Nat) (s u : State) (src : Source) (f p : List Byte),
    (c, op) ∈ [(Instr.labelDetach src, 49), (.labelRemove src, 50), (.labelResend src, 51)] → s.Takes src op f u p →
    (p.length < 4 ∨ fieldAt p 0 4 = 0 → Sys2Proof.Machine.exec c s = .next (u.answer src f op .range [])) ∧
    (4 ≤ p.length → fieldAt p 0 4 ≠ 0 → u.findLabel (fieldAt p 0 4) = none →
      Sys2Proof.Machine.exec c s = .next (u.answer src f op .unknown []))) ∧
  (∀ (s u : State) (src : Source) (f p : List Byte) (i : Nat) (lab : Label), s.Takes src 49 f u p → 4 ≤ p.length →
    fieldAt p 0 4 ≠ 0 → u.findLabel (fieldAt p 0 4) = some (i, lab) → lab.item = none →
    Sys2Proof.Machine.exec (.labelDetach src) s = .next (u.answer src f 49 .state [])) ∧
  (∀ (s u : State) (src : Source) (f p : List Byte) (i k : Nat) (lab : Label) (it : Item), s.Takes src 50 f u p →
    u.TablesCanonical → 4 ≤ p.length → fieldAt p 0 4 ≠ 0 → u.findLabel (fieldAt p 0 4) = some (i, lab) →
    lab.item = some k → u.items.get? k = some it →
    ∃ t : State, Sys2Proof.Machine.exec (.labelRemove src) s = .next (t.answer src f 50 .done []) ∧
    t.items.get? k = some { it with
      labels := it.labels.filter (fun x => decide (x ≠ lab.id))
      floor := t.lowestShown (it.labels.filter (fun x => decide (x ≠ lab.id))) } ∧
    (∀ x, x ≠ k → t.items.get? x = u.items.get? x)) ∧
  -- A label leaves its link's queue or order of sending as it is detached or removed (R95).
  (∀ (c : Instr) (op : Nat) (s u : State) (src : Source) (f p : List Byte) (i k : Nat) (lab : Label) (r : LinkRecord),
    (c, op) ∈ [(Instr.labelDetach src, 49), (.labelRemove src, 50)] → s.Takes src op f u p → 4 ≤ p.length →
    fieldAt p 0 4 ≠ 0 → u.findLabel (fieldAt p 0 4) = some (i, lab) → lab.item = some k → r = u.link lab.link →
    ∃ t : State, Sys2Proof.Machine.exec c s = .next (t.answer src f op .done []) ∧
    t.links = u.links.set lab.link { r with
      queue := if lab.state = .queued then r.queue.filter (fun x => decide (x ≠ i)) else r.queue
      sentOrder := if lab.state.inFlight = true then r.sentOrder.filter (fun x => decide (x ≠ i))
        else r.sentOrder }) ∧
  -- Resend where the item has no Active Price, and where the queue has no room (R101, R99).
  (∀ (s u : State) (src : Source) (f p : List Byte) (i : Nat) (lab : Label), s.Takes src 51 f u p → 4 ≤ p.length →
    fieldAt p 0 4 ≠ 0 → u.findLabel (fieldAt p 0 4) = some (i, lab) →
    lab.state = .current ∨ lab.state = .lost ∨ lab.state = .stale → u.activeFor lab = none →
    Sys2Proof.Machine.exec (.labelResend src) s = .next (u.answer src f 51 .done [])) ∧
  (∀ (s u : State) (src : Source) (f p : List Byte) (i price : Nat) (lab : Label), s.Takes src 51 f u p → 4 ≤ p.length →
    fieldAt p 0 4 ≠ 0 → u.findLabel (fieldAt p 0 4) = some (i, lab) →
    lab.state = .current ∨ lab.state = .lost ∨ lab.state = .stale → u.activeFor lab = some price →
    u.queueRoom lab.link = false →
    ∃ t : State, Sys2Proof.Machine.exec (.labelResend src) s = .next (t.answer src f 51 .done []) ∧
    Spoken (State.raise { u with labels := Table.put i { lab with state := .stale, attempts := 0 } u.labels } .labelStale 1) t)

/-- Link Clear zeroes the check-error count, and a Faulted link becomes Silent with its missed-beacon count 0; a Station Status
zeroes the missed-beacon count and makes a Silent link Ready; a Ready link with three missed beacons falls silent at a
superframe start, its Sent labels returning to the head of its queue. A Label Report or Station Status that fails its checks
raises the link's check-error count, up to 65,535; at or above the fault threshold a Silent or Ready link becomes Faulted with
LINK-FAULT counted, the Sent labels of a Ready one returning, those without room Stale with LABEL-STALE counted (R104, R105,
R106, R107, R108, R115, R203). The order of the two counts is the model's choice (log 44). That a link may fall silent by its
own row before its superframe is log 17, that it then enters Silent with its missed-beacon count 0 is log 20, or Faulted in its
place with 0 too log 67, and the link selector of Link Clear is log 9. -/
def Obligations.LinksFollowTheirStations : Prop :=
  (∀ (s u : State) (src : Source) (f p : List Byte) (l : LinkId), s.Takes src 53 f u p → 1 ≤ p.length →
    linkOf? (fieldAt p 0 1) = some l → (u.link l).state = .faulted →
    Sys2Proof.Machine.exec (.linkClear src) s = .next (State.answer { u with
      links := u.links.set l { u.link l with checkErrors := 0, missed := 0, state := .silent } } src f 53 .done [])) ∧
  (∀ (s u : State) (src : Source) (f p : List Byte) (l : LinkId), s.Takes src 53 f u p → 1 ≤ p.length →
    linkOf? (fieldAt p 0 1) = some l → (u.link l).state ≠ .faulted →
    Sys2Proof.Machine.exec (.linkClear src) s = .next (State.answer { u with
      links := u.links.set l { u.link l with checkErrors := 0 } } src f 53 .done [])) ∧
  (∀ (s u : State) (src : Source) (f p : List Byte), s.Takes src 53 f u p → 1 ≤ p.length → 2 ≤ fieldAt p 0 1 →
    Sys2Proof.Machine.exec (.linkClear src) s = .next (u.answer src f 53 .range [])) ∧
  (∀ (s u : State) (l : LinkId) (f : List Byte), s.Heard (.b l) 0x23 f → u = s.takeHanded (.b l) →
    (frameBody f).length = 0 →
    Sys2Proof.Machine.exec (.stationStatus l) s = .next { u with
      links := u.links.set l { u.link l with
        missed := 0, state := if (u.link l).state = .silent then .ready else (u.link l).state } }) ∧
  (∀ (s : State) (l : LinkId), s.superframeAtHand = true → (s.link l).state = .ready → (s.link l).missed = 3 →
    ∃ t : State, Sys2Proof.Machine.exec (.linkSilence l) s = .next t ∧ (t.link l).missed = 0 ∧
    (t.link l).state = (if s.settings.labels.faultThreshold ≤ (s.link l).checkErrors then .faulted else .silent) ∧
    (t.link l).sentOrder = [] ∧
    (t.link l).queue = (s.link l).sentOrder.take (512 - (s.link l).queue.length) ++ (s.link l).queue ∧
    t.counter .linkSilent = min (s.counter .linkSilent + 1) 65535) ∧
  (∀ (c : Instr) (s u v : State) (l : LinkId) (f : List Byte) (r : LinkRecord), s.isUp (.b l) = true →
    s.firstHanded (.b l) = some f →
    (c = .labelReport l ∧ frameKind f = 0x22 ∧ reportEntries? f = none) ∨
    (c = .stationStatus l ∧ frameKind f = 0x23 ∧ (envelopeOk f = false ∨ (frameBody f).length ≠ 0)) →
    u = s.takeHanded (.b l) → r = { u.link l with checkErrors := min ((u.link l).checkErrors + 1) 65535 } →
    v = { u with links := u.links.set l { r with state := .faulted } } →
    (r.state = .off ∨ r.state = .faulted ∨ r.checkErrors < u.settings.labels.faultThreshold →
      Sys2Proof.Machine.exec c s = .next { u with links := u.links.set l r }) ∧
    (r.state = .silent → u.settings.labels.faultThreshold ≤ r.checkErrors →
      ∃ t : State, Sys2Proof.Machine.exec c s = .next t ∧ Spoken (v.raise .linkFault 1) t) ∧
    (r.state = .ready → u.settings.labels.faultThreshold ≤ r.checkErrors →
      ∃ t : State, Sys2Proof.Machine.exec c s = .next t ∧ OnlyLabelsMoved u t ∧ t.items = u.items ∧
      t.link l = { r.yielded true with state := .faulted } ∧ (∀ l', l' ≠ l → t.link l' = u.link l') ∧
      t.counter .linkFault = min (u.counter .linkFault + 1) 65535 ∧
      t.counter .labelStale = (if r.overflow = [] then u.counter .labelStale
        else min (u.counter .labelStale + r.overflow.length) 65535) ∧
      (∀ i, i ∉ r.sentOrder → t.labels.get? i = u.labels.get? i) ∧
      ∀ i lab, i ∈ r.sentOrder → u.labels.get? i = some lab →
        t.labels.get? i = some { lab with state := if i ∈ r.overflow then .stale else .queued })) ∧
  (∀ (f : List Byte) (es : List (List Byte)) (n : Nat), n = fieldAt (frameBody f) 0 1 →
    (reportEntries? f = some es ↔ envelopeOk f = true ∧ 1 ≤ n ∧ n ≤ 16 ∧ (frameBody f).length = 2 + 12 * n ∧
      es = piecesAt (frameBody f) 2 12 n ∧
      ∀ e ∈ es, fieldAt e 6 1 ≤ 2 ∧ (fieldAt e 6 1 = 0 → fieldAt e 8 4 ≤ 9999999)))

/-- A superframe starts where the internal pacer's Time Left is over, by its own row or within the next advance, at an edge of
BEACON IN with the external source, and at the next advance after a Beacon Once, which is then no longer pending: the count and
the Number advance, the window takes the pair, BEACON OUT pulses, the pacer works out the superframe's length, and each link
that is not Off does its work. A Beacon Once is Busy while one is pending, and refused with State where the source is external
or P is nonzero. At every start a Ready link with three missed beacons first falls silent: it becomes Silent, or Faulted with
LINK-FAULT counted, its Sent labels return to its queue's head or find no room and are Stale, and LINK-SILENT is counted. The
Beacon with the Number and Store Time is offered to the link's port; admitted, it joins the Control queue and raises the
missed-beacon count, up to 3, and refused, it leaves the count and no label becomes Sent. Then the deadlines of its Sent labels
are handled, in send order (log 39). A Ready link whose Beacon was admitted takes labels from its queue's head, a label that
shows its price becoming Current and any other Sent, up to the Slot Budget of Sent ones, into one Label Update; refused, its
labels return to the head, Queued, their Attempts kept (R104, R106, R107, R109, R110, R111, R113, R114). That the pulses are
counted is the model's own (log 30), that B0's work precedes B1's its choice (log 45), and so are the order of the slots and the
superframe that an advance takes (log 1) and the missed-beacon count 0 of a link that enters Faulted (log 67). -/
def Obligations.SuperframesAdvanceAndServeTheLinks : Prop :=
  (∀ s : State, s.loading = false → s.settings.labels.external = false → s.settings.labels.period ≠ 0 →
    s.pacer.timeLeft = 0 →
    ∃ t : State, Sys2Proof.Machine.exec .pacerExpiry s = .next t ∧ t.beaconPulses = s.beaconPulses + 1 ∧
    t.pacer = { s.pacer with
      timeLeft := (s.settings.labels.period + s.pacer.remainder) / 16
      remainder := (s.settings.labels.period + s.pacer.remainder) % 16
      count := (s.pacer.count + 1) % 4294967296
      number := nextNumber s.settings.labels.max s.pacer.number
      window := ((s.pacer.count + 1) % 4294967296, nextNumber s.settings.labels.max s.pacer.number)
        :: s.pacer.window.take 3 }) ∧
  (∀ s : State, s.loading = false → s.settings.labels.external = true →
    ∃ t : State, Sys2Proof.Machine.exec .beaconInEdge s = .next t ∧ t.beaconPulses = s.beaconPulses + 1 ∧
    t.pacer = { s.pacer with
      count := (s.pacer.count + 1) % 4294967296
      number := nextNumber s.settings.labels.max s.pacer.number
      window := ((s.pacer.count + 1) % 4294967296, nextNumber s.settings.labels.max s.pacer.number)
        :: s.pacer.window.take 3 }) ∧
  (∀ s : State, s.settings.labels.external = false → Sys2Proof.Machine.exec .beaconInEdge s = .next s) ∧
  (∀ max number : Nat, nextNumber max number =
    if max = 0 then 0 else if number = 0 ∨ max ≤ number then 1 else number + 1) ∧
  (∀ (s u : State) (src : Source) (f p : List Byte), s.Takes src 54 f u p → u.settings.labels.external = false →
    u.settings.labels.period = 0 → u.pacer.oncePending = false →
    ∃ t : State, Sys2Proof.Machine.exec (.beaconOnce src) s = .next (t.answer src f 54 .done []) ∧
    t.pacer = { u.pacer with oncePending := true } ∧
    (∀ l, (u.link l).state = .off → u.isUp (.b l) = true →
      (t.link l).state = if u.settings.labels.faultThreshold ≤ (u.link l).checkErrors then .faulted else .silent)) ∧
  (∀ s : State, s.loading = false → s.settings.labels.external = false → s.settings.labels.period = 0 →
    s.pacer.oncePending = true →
    ∃ t : State, Sys2Proof.Machine.exec .millisecondAdvance s = .next t ∧ t.beaconPulses = s.beaconPulses + 1 ∧
    t.pacer = { s.pacer with
      oncePending := false
      count := (s.pacer.count + 1) % 4294967296
      number := nextNumber s.settings.labels.max s.pacer.number
      window := ((s.pacer.count + 1) % 4294967296, nextNumber s.settings.labels.max s.pacer.number)
        :: s.pacer.window.take 3 }) ∧
  (∀ (s u : State) (src : Source) (f p : List Byte), s.Takes src 54 f u p → u.settings.labels.external = false →
    u.settings.labels.period = 0 → u.pacer.oncePending = true →
    Sys2Proof.Machine.exec (.beaconOnce src) s = .next (u.answer src f 54 .busy [])) ∧
  (∀ s v : State, s.loading = false → s.settings.labels.external = true →
    v = { s with
      beaconPulses := s.beaconPulses + 1
      pacer := { s.pacer with
        count := (s.pacer.count + 1) % 4294967296
        number := nextNumber s.settings.labels.max s.pacer.number
        window := ((s.pacer.count + 1) % 4294967296, nextNumber s.settings.labels.max s.pacer.number)
          :: s.pacer.window.take 3 } } →
    Sys2Proof.Machine.exec .beaconInEdge s = .next ((v.linkSuperframe .b0).linkSuperframe .b1)) ∧
  (∀ s v : State, s.loading = false → s.settings.labels.external = false → s.settings.labels.period ≠ 0 →
    s.pacer.timeLeft = 0 →
    v = { s with
      beaconPulses := s.beaconPulses + 1
      pacer := { s.pacer with
        timeLeft := (s.settings.labels.period + s.pacer.remainder) / 16
        remainder := (s.settings.labels.period + s.pacer.remainder) % 16
        count := (s.pacer.count + 1) % 4294967296
        number := nextNumber s.settings.labels.max s.pacer.number
        window := ((s.pacer.count + 1) % 4294967296, nextNumber s.settings.labels.max s.pacer.number)
          :: s.pacer.window.take 3 } } →
    Sys2Proof.Machine.exec .pacerExpiry s = .next ((v.linkSuperframe .b0).linkSuperframe .b1)) ∧
  (∀ (u : State) (l : LinkId), (u.link l).state = .off → u.linkSuperframe l = u) ∧
  -- A Ready link with three missed beacons, at every start of a superframe (R106, R104, R107).
  (∀ (u w : State) (l : LinkId) (r : LinkRecord), r = u.link l → r.state = .ready → r.missed = 3 → w = u.silence l →
    u.linkSuperframe l = w.linkSuperframe l ∧ OnlyLabelsMoved u w ∧ w.items = u.items ∧
    w.link l = { r.yielded true with
      missed := 0, state := if u.settings.labels.faultThreshold ≤ r.checkErrors then .faulted else .silent } ∧
    (∀ l', l' ≠ l → w.link l' = u.link l') ∧
    w.counter .linkSilent = min (u.counter .linkSilent + 1) 65535 ∧
    w.counter .linkFault = (if u.settings.labels.faultThreshold ≤ r.checkErrors then min (u.counter .linkFault + 1) 65535
      else u.counter .linkFault) ∧
    w.counter .labelStale = (if r.overflow = [] then u.counter .labelStale
      else min (u.counter .labelStale + r.overflow.length) 65535) ∧
    (∀ i, i ∉ r.sentOrder → w.labels.get? i = u.labels.get? i) ∧
    (∀ i lab, i ∈ r.sentOrder → u.labels.get? i = some lab →
      w.labels.get? i = some { lab with state := if i ∈ r.overflow then .stale else .queued }) ∧
    (u.superframeAtHand = true → Sys2Proof.Machine.exec (.linkSilence l) u = .next w)) ∧
  -- The superframe of a Beacon Once, at the next advance.
  (∀ s x v : State, s.loading = false → s.settings.labels.external = false → s.settings.labels.period = 0 →
    s.pacer.oncePending = true → x = s.takeDue.tickClock.tickTimers.tickPacer →
    v = { x with
      beaconPulses := s.beaconPulses + 1
      pacer := { s.pacer with
        oncePending := false
        count := (s.pacer.count + 1) % 4294967296
        number := nextNumber s.settings.labels.max s.pacer.number
        window := ((s.pacer.count + 1) % 4294967296, nextNumber s.settings.labels.max s.pacer.number)
          :: s.pacer.window.take 3 } } →
    Sys2Proof.Machine.exec .millisecondAdvance s = .next ((v.linkSuperframe .b0).linkSuperframe .b1) ∧
    x.labels = s.labels ∧ x.links = s.links ∧ x.items = s.items ∧ x.settings = s.settings ∧
    x.clock = { s.clock with now := Moment.next s.clock.now }) ∧
  -- A superframe of the internal pacer that its own row has not started starts within the advance, after the slots then due.
  (∀ s w : State, s.loading = false → s.settings.labels.external = false → 16 ≤ s.settings.labels.period →
    s.pacer.timeLeft = 0 → Sys2Proof.Machine.exec .pacerExpiry s.fireDue = .next w →
    Sys2Proof.Machine.exec .millisecondAdvance s = Sys2Proof.Machine.exec .millisecondAdvance w ∧
    s.fireDue.labels = s.labels ∧ s.fireDue.links = s.links ∧ s.fireDue.items = s.items ∧ s.fireDue.pacer = s.pacer ∧
    s.fireDue.clock = s.clock ∧ s.fireDue.settings = s.settings) ∧
  (∀ s : State, (∀ n, s.dailyDue n = false) → s.cutoverDue = false → s.fireDue = s) ∧
  (∀ (s u : State) (src : Source) (f p : List Byte), s.Takes src 54 f u p →
    u.settings.labels.external = true ∨ u.settings.labels.period ≠ 0 →
    Sys2Proof.Machine.exec (.beaconOnce src) s = .next (u.answer src f 54 .state [])) ∧
  (∀ (u t : State) (l : LinkId) (frame : List Byte), (u.link l).state ≠ .off →
    (u.link l).state ≠ .ready ∨ (u.link l).missed ≠ 3 →
    frame = buildMessage 0x20 broadcast u.managementAddress (u.pacer.count % 65536)
      (be 2 u.pacer.number ++ beMoment u.clock.now) → t = u.linkSuperframe l →
    (u.loading = false → u.takesCopy .control (.b l) = true → u.roomFor .control (cellsOf frame.length) = true →
      u.queue (.b l) .control ++ [u.pool.nextRef] <+: t.queue (.b l) .control ∧
      t.pool.frames.get? u.pool.nextRef = some ⟨.control, 1, .generated, frame⟩ ∧
      (t.link l).missed = min ((u.link l).missed + 1) 3) ∧
    (u.loading = true ∨ u.takesCopy .control (.b l) = false ∨ u.roomFor .control (cellsOf frame.length) = false →
      t.queue (.b l) .control = u.queue (.b l) .control ∧ (t.link l).missed = (u.link l).missed ∧
      ∀ i lab price count, t.labels.get? i = some lab → lab.state = .sent price count → u.labels.get? i = some lab)) ∧
  (∀ (u v w : State) (l : LinkId) (ref : Nat), (u.link l).state ≠ .off →
    (u.link l).state ≠ .ready ∨ (u.link l).missed ≠ 3 →
    u.send 0x20 (.b l) broadcast (u.pacer.count % 65536) (be 2 u.pacer.number ++ beMoment u.clock.now) = (w, .stored ref) →
    v = (u.link l).sentOrder.foldl State.deadline { w with
      links := w.links.set l { w.link l with missed := min ((u.link l).missed + 1) 3 } } →
    ((u.link l).state = .ready → u.linkSuperframe l = v.labelUpdate l) ∧ ((u.link l).state ≠ .ready → u.linkSuperframe l = v)) ∧
  (∀ (v t : State) (l : LinkId) (r : State × List Nat × List Nat) (frame : List Byte),
    r = takeLabels (v.link l).queue v.settings.labels.slotBudget v → t = v.labelUpdate l →
    frame = buildMessage 0x21 broadcast v.managementAddress (v.pacer.count % 65536)
      (be 2 v.pacer.number ++ be 1 r.2.1.length ++ [0#8] ++ r.2.1.flatMap r.1.updateEntry) →
    (r.2.1 = [] → t = { v with labels := r.1.labels, links := v.links.set l { v.link l with queue := r.2.2 } }) ∧
    (r.2.1 ≠ [] → v.loading = false → v.takesCopy .control (.b l) = true →
      v.roomFor .control (cellsOf frame.length) = true →
      t.queue (.b l) .control = v.queue (.b l) .control ++ [v.pool.nextRef] ∧
      t.pool.frames.get? v.pool.nextRef = some ⟨.control, 1, .generated, frame⟩ ∧ t.labels = r.1.labels ∧
      t.link l = { v.link l with queue := r.2.2, sentOrder := (v.link l).sentOrder ++ r.2.1 }) ∧
    (r.2.1 ≠ [] → v.loading = true ∨ v.takesCopy .control (.b l) = false ∨
        v.roomFor .control (cellsOf frame.length) = false →
      t.queue (.b l) .control = v.queue (.b l) .control ∧ t.link l = { v.link l with queue := r.2.1 ++ r.2.2 } ∧
      (∀ i lab, i ∈ r.2.1 → v.labels.get? i = some lab → t.labels.get? i = some { lab with state := .queued }) ∧
      ∀ i, i ∉ r.2.1 → t.labels.get? i = r.1.labels.get? i)) ∧
  (∀ (v : State) (q : List Nat) (i budget price : Nat) (lab : Label), v.labels.get? i = some lab →
    v.activeFor lab = some price →
    (lab.shown = some price → takeLabels (i :: q) (budget + 1) v = takeLabels q (budget + 1)
      { v with labels := Table.put i { lab with state := .current, attempts := 0 } v.labels }) ∧
    (∀ r, lab.shown ≠ some price →
      r = takeLabels q budget { v with labels := Table.put i { lab with state := .sent price v.pacer.count } v.labels } →
      takeLabels (i :: q) (budget + 1) v = (r.1, i :: r.2.1, r.2.2))) ∧
  (∀ (v : State) (q : List Nat), takeLabels q 0 v = (v, [], q)) ∧
  (∀ (v : State) (budget : Nat), takeLabels [] budget v = (v, [], []))

/-- A matching Shown entry makes the label Current at the price shown, and puts it to fresh work where its item has moved on; a
matching NoContact entry and a passed deadline raise Attempts and queue the label again, and make it Lost at the fifth; a
matching Rejected entry makes it Lost. A late entry counts LABEL-LATE: a Shown one for an attached label of the link still sets
the Shown Price and the Shelf Floor, and puts a Current label that now differs to fresh work; any other is discarded. The
entries of a report are taken one after another (R98, R114, R115, R116, R117, R118). LABEL_DEADLINE apart from the superframe
start is the model's form (log 17). -/
def Obligations.ReportsAndDeadlinesMoveLabels : Prop :=
  (∀ (s u : State) (l : LinkId) (f e : List Byte) (i price count : Nat) (lab : Label), s.Heard (.b l) 0x22 f →
    u = s.takeHanded (.b l) → reportEntries? f = some [e] → u.findLabel (fieldAt e 0 4) = some (i, lab) → lab.link = l →
    lab.state = .sent price count →
    u.settings.labels.max = 0 ∨ u.numberOf count = some (fieldAt e 4 2) → fieldAt e 6 1 = 0 →
    ∃ t : State, Sys2Proof.Machine.exec (.labelReport l) s = .next t ∧ OnlyLabelsMoved u t ∧
    (u.activeFor lab = some (fieldAt e 8 4) →
      t.labels = Table.put i { lab with shown := some (fieldAt e 8 4), attempts := 0, state := .current } u.labels ∧
      (∀ k it, lab.item = some k → u.items.get? k = some it →
        t.items.get? k = some { it with floor := t.lowestShown it.labels })) ∧
    (u.activeFor lab ≠ some (fieldAt e 8 4) → u.queueRoom l = true →
      t.labels.get? i = some { lab with shown := some (fieldAt e 8 4), attempts := 0, state := .queued } ∧
      (t.link l).queue = (u.link l).queue ++ [i])) ∧
  (∀ (s u : State) (l : LinkId) (f e : List Byte) (i price count : Nat) (lab : Label), s.Heard (.b l) 0x22 f →
    u = s.takeHanded (.b l) → reportEntries? f = some [e] → u.findLabel (fieldAt e 0 4) = some (i, lab) → lab.link = l →
    lab.state = .sent price count →
    u.settings.labels.max = 0 ∨ u.numberOf count = some (fieldAt e 4 2) → fieldAt e 6 1 = 1 → lab.attempts < 4 →
    u.queueRoom l = true →
    ∃ t : State, Sys2Proof.Machine.exec (.labelReport l) s = .next t ∧ OnlyLabelsMoved u t ∧
    t.labels.get? i = some { lab with attempts := lab.attempts + 1, state := .queued } ∧
    (t.link l).queue = (u.link l).queue ++ [i]) ∧
  (∀ (s u : State) (l : LinkId) (f e : List Byte) (i price count : Nat) (lab : Label), s.Heard (.b l) 0x22 f →
    u = s.takeHanded (.b l) → reportEntries? f = some [e] → u.findLabel (fieldAt e 0 4) = some (i, lab) → lab.link = l →
    lab.state = .sent price count →
    u.settings.labels.max = 0 ∨ u.numberOf count = some (fieldAt e 4 2) → fieldAt e 6 1 = 1 → 4 ≤ lab.attempts →
    ∃ t : State, Sys2Proof.Machine.exec (.labelReport l) s = .next t ∧ OnlyLabelsMoved u t ∧
    t.labels.get? i = some { lab with attempts := lab.attempts + 1, state := .lost } ∧
    t.counter .labelLost = min (u.counter .labelLost + 1) 65535) ∧
  (∀ (s u : State) (l : LinkId) (f : List Byte) (es : List (List Byte)), s.Heard (.b l) 0x22 f →
    u = s.takeHanded (.b l) → reportEntries? f = some es →
    Sys2Proof.Machine.exec (.labelReport l) s = .next (es.foldl (fun v e => v.reportEntry l e) u)) ∧
  (∀ (u : State) (l : LinkId) (e : List Byte), (∀ i lab, u.findLabel (fieldAt e 0 4) = some (i, lab) →
      lab.link ≠ l ∨ ((fieldAt e 6 1 ≠ 0 ∨ lab.item = none) ∧ ∀ price count, lab.state = .sent price count →
        u.settings.labels.max ≠ 0 ∧ u.numberOf count ≠ some (fieldAt e 4 2))) →
    Spoken (u.raise .labelLate 1) (u.reportEntry l e)) ∧
  (∀ (u : State) (l : LinkId) (e : List Byte) (i k : Nat) (lab : Label) (it : Item),
    u.findLabel (fieldAt e 0 4) = some (i, lab) → lab.link = l → lab.item = some k → u.items.get? k = some it →
    (∀ price count, lab.state = .sent price count →
      u.settings.labels.max ≠ 0 ∧ u.numberOf count ≠ some (fieldAt e 4 2)) → fieldAt e 6 1 = 0 →
    ∃ t : State, u.reportEntry l e = t ∧ OnlyLabelsMoved u t ∧
    t.counter .labelLate = min (u.counter .labelLate + 1) 65535 ∧
    t.items.get? k = some { it with floor := t.lowestShown it.labels } ∧
    (lab.state ≠ .current ∨ it.active = some (fieldAt e 8 4) →
      t.labels = Table.put i { lab with shown := some (fieldAt e 8 4) } u.labels) ∧
    (lab.state = .current → it.active ≠ some (fieldAt e 8 4) → u.queueRoom l = true →
      t.labels.get? i = some { lab with shown := some (fieldAt e 8 4), attempts := 0, state := .queued } ∧
      (t.link l).queue = (u.link l).queue ++ [i])) ∧
  (∀ (s u : State) (l : LinkId) (f e : List Byte) (i price count : Nat) (lab : Label), s.Heard (.b l) 0x22 f →
    u = s.takeHanded (.b l) → reportEntries? f = some [e] → u.findLabel (fieldAt e 0 4) = some (i, lab) → lab.link = l →
    lab.state = .sent price count →
    u.settings.labels.max = 0 ∨ u.numberOf count = some (fieldAt e 4 2) → fieldAt e 6 1 = 2 →
    ∃ t : State, Sys2Proof.Machine.exec (.labelReport l) s = .next t ∧ OnlyLabelsMoved u t ∧
    t.labels.get? i = some { lab with state := .lost } ∧
    t.counter .labelLost = min (u.counter .labelLost + 1) 65535) ∧
  (∀ (s : State) (i price count : Nat) (lab : Label), s.labels.get? i = some lab → lab.state = .sent price count →
    (s.pacer.count + 4294967296 - count) % 4294967296 = 4 → lab.attempts < 4 → s.queueRoom lab.link = true →
    ∃ t : State, Sys2Proof.Machine.exec (.labelDeadline i) s = .next t ∧ OnlyLabelsMoved s t ∧
    t.labels.get? i = some { lab with attempts := lab.attempts + 1, state := .queued } ∧
    (t.link lab.link).queue = (s.link lab.link).queue ++ [i]) ∧
  (∀ (s : State) (i price count : Nat) (lab : Label), s.labels.get? i = some lab → lab.state = .sent price count →
    (s.pacer.count + 4294967296 - count) % 4294967296 = 4 → 4 ≤ lab.attempts →
    ∃ t : State, Sys2Proof.Machine.exec (.labelDeadline i) s = .next t ∧ OnlyLabelsMoved s t ∧
    t.labels.get? i = some { lab with attempts := lab.attempts + 1, state := .lost } ∧
    t.counter .labelLost = min (s.counter .labelLost + 1) 65535)

/-- A link's Stale Scan runs while its queue has room and some Stale label of the link has a live item. A running scan queues the
Stale label of the link at its position, where its item is live, at the tail with its Attempts kept, and passes any other record
by; its position advances by one, from 8,191 to 0. A scan that does not run pauses where it stands, and the other link's scan,
queue and position stay as they were (R102). -/
def Obligations.StaleScansQueueStaleLabels : Prop :=
  (∀ (s : State) (l : LinkId), s.staleScanRuns l = true ↔ (s.link l).queue.length < 512 ∧
    ∃ kv ∈ s.labels, kv.2.link = l ∧ kv.2.state = .stale ∧ ∃ price, s.activeFor kv.2 = some price) ∧
  (∀ (s t : State) (l l' : LinkId), Sys2Proof.Machine.exec (.staleScanStep l) s = .next t → l' ≠ l → t.link l' = s.link l') ∧
  (∀ (s : State) (l : LinkId) (i price : Nat) (lab : Label), s.staleScanRuns l = true → i = (s.link l).scanPosition →
    s.labels.get? i = some lab → lab.link = l → lab.state = .stale → s.activeFor lab = some price →
    Sys2Proof.Machine.exec (.staleScanStep l) s = .next { s with
      labels := Table.put i { lab with state := .queued } s.labels
      links := s.links.set l { s.link l with
        queue := (s.link l).queue ++ [i], scanPosition := if i < 8191 then i + 1 else 0 } }) ∧
  (∀ (s : State) (l : LinkId), s.staleScanRuns l = true →
    (∀ lab, s.labels.get? (s.link l).scanPosition = some lab → s.staleLive l lab = false) →
    Sys2Proof.Machine.exec (.staleScanStep l) s = .next { s with
      links := s.links.set l { s.link l with
        scanPosition := if (s.link l).scanPosition < 8191 then (s.link l).scanPosition + 1 else 0 } }) ∧
  (∀ (s : State) (l : LinkId), s.staleScanRuns l = false → Sys2Proof.Machine.exec (.staleScanStep l) s = .next s)

/-! ### The night link -/

/-- Night Link Start opens a Night session afresh where none is active and is Busy otherwise; Night Link Stop cuts a session
in Opening, Receiving or Closing and one in Draining with nothing outstanding, turns Draining with blocks outstanding to
Stopping, leaves Stopping, and is refused with State where no session is active (R143, R157, R159). What a start leaves in
fields the spec does not name is in log 6; that a report asked for and not yet answered is dropped with the session is log 42;
NIGHT-CUT before BATCH-DISCARDED, and both before the response, are the model's choice (logs 51 and 53). -/
def Obligations.NightLinkStartsAndStops : Prop :=
  (∀ (s u : State) (src : Source) (f p : List Byte), s.Takes src 96 f u p → u.session.state.active = false →
    ∃ t : State, Sys2Proof.Machine.exec (.nightLinkStart src) s = .next (t.answer src f 96 .done []) ∧
    t = { u with session := t.session } ∧ t.session.type = some .night ∧ t.session.state = .opening ∧
    t.session.openTag = (if u.session.openTag < 65535 then u.session.openTag + 1 else 0) ∧ t.session.sessionId = none ∧
    t.session.window = none ∧ t.session.drainMark = none ∧ t.session.nextSend = none ∧ t.session.nextBlock = 1 ∧
    t.session.outstanding = [] ∧ t.session.retry = 0 ∧ t.session.timer = none ∧ t.session.acknowledged = 0 ∧
    t.session.verdict = none ∧ t.session.lastOutcome = u.session.lastOutcome ∧ t.session.reportAsked = true) ∧
  (∀ (s u : State) (src : Source) (f p : List Byte), s.Takes src 96 f u p → u.session.state.active = true →
    Sys2Proof.Machine.exec (.nightLinkStart src) s = .next (u.answer src f 96 .busy [])) ∧
  (∀ (s u : State) (src : Source) (f p : List Byte), s.Takes src 97 f u p →
    u.session.state = .opening ∨ u.session.state = .receiving ∨ u.session.state = .closing ∨
      (u.session.state = .draining ∧ u.session.outstanding = []) →
    ∃ t : State, Sys2Proof.Machine.exec (.nightLinkStop src) s = .next (t.answer src f 97 .done []) ∧
    t.session = { u.session with
      state := .cut, timer := none, outstanding := [], lastOutcome := some .stopped, reportAsked := false
      releaseNotice := false } ∧
    t.counter .nightCut = min (u.counter .nightCut + 1) 65535 ∧ t.journal = u.journal ∧
    (∀ b, u.batch = some b → b.state = .receiving → t.batch = some { b with state := .withdrawing, position := 0 })) ∧
  (∀ (s u : State) (src : Source) (f p : List Byte), s.Takes src 97 f u p → u.session.state = .draining →
    u.session.outstanding ≠ [] →
    Sys2Proof.Machine.exec (.nightLinkStop src) s =
      .next (State.answer { u with session := { u.session with state := .stopping } } src f 97 .done [])) ∧
  (∀ (s u : State) (src : Source) (f p : List Byte), s.Takes src 97 f u p → u.session.state = .stopping →
    Sys2Proof.Machine.exec (.nightLinkStop src) s = .next (u.answer src f 97 .done [])) ∧
  (∀ (s u : State) (src : Source) (f p : List Byte), s.Takes src 97 f u p → u.session.state.active = false →
    Sys2Proof.Machine.exec (.nightLinkStop src) s = .next (u.answer src f 97 .state []))

/-- Once the journal report can be answered the Transfer Open is built with the Open Tag and offered, joining UP's Control queue
where that takes it and the pool has room, and the Timer is started; the last step of a Recovery Scan answers the report that
waited for it. A Transfer Accept in its place with Go takes the Session Id, the window and the drain mark; the session drains,
its first new block beginning at the oldest record, or goes on where the journal holds nothing. In Draining, while fewer blocks
than the Window are outstanding, none is Waiting and Next Send is not past the Drain Mark, a new block is made: it takes the
Next Block Number, Next Send as First Sequence, and up to 32 records of what is left; it starts a stopped Timer, raises Next
Send and the number, and its segments are offered in order to UP's Bulk queue: all admitted, it is Offered; from the first
refused on it is Waiting. Else none is made. Draining ends with no block outstanding and Next Send past the Drain Mark:
Receiving follows where a Night session expects a batch, else Closing, on entering which the first Transfer End is offered,
joining UP's Control queue where that takes it and the pool has room. The Transfer Open carries the fields of R145, one by one.
With Decline the session ends Done; the time a Transfer Accept carries is loaded where the setting says so (R145, R147, R148,
R149, R152, R155, R205, R4, R84, R90). The answer to what then stands first is log 3, a destination where no head-office station
is configured log 11, the layout of the bodies log 9, when a report is answered log 42, and Next Send above the greatest
sequence log 48. -/
def Obligations.TransferOpensAndIsAccepted : Prop :=
  (∀ s : State, s.session.state = .opening → s.session.reportAsked = true → s.journal.scan = none →
    ∃ t : State, Sys2Proof.Machine.exec .transferOpen s = .next t ∧
    Spoken (State.drawStation { s with session := { s.session with
      reportAsked := false, retry := 0, openOffered := true, timer := some (1000 * s.settings.blockTimer) } }) t ∧
    (∀ frame, s.loading = false → s.takesCopy .control .up = true →
      frame = buildMessage 0x40 s.headOfficeStation s.managementAddress s.session.openTag s.transferOpenBody →
      s.roomFor .control (cellsOf frame.length) = true →
      t.queue .up .control = s.queue .up .control ++ [s.pool.nextRef] ∧
      t.pool.frames.get? s.pool.nextRef = some ⟨.control, 1, .generated, frame⟩)) ∧
  (∀ (s v : State) (damaged : Option Slot), s.journal.scan.isSome = true → v = s.recoveryScanStep damaged →
    (v.journal.scan = none → Sys2Proof.Machine.exec (.recoveryScanStep damaged) s = Sys2Proof.Machine.exec .transferOpen v) ∧
    (v.journal.scan.isSome = true → Sys2Proof.Machine.exec (.recoveryScanStep damaged) s = .next v) ∧
    v.session = s.session ∧ v.settings = s.settings) ∧
  (∀ s : State, s.session.state ≠ .opening ∨ s.session.reportAsked = false ∨ s.journal.scan.isSome = true →
    Sys2Proof.Machine.exec .transferOpen s = .next s) ∧
  (∀ (s u : State) (f b : List Byte), s.Heard .up 0x41 f → u = s.takeHanded .up → b = frameBody f →
    transferAcceptOk b = true → u.session.state = .opening → u.session.openOffered = true →
    frameTag f = u.session.openTag → acceptTime b = none ∨ u.settings.management.takeOfficeTime = false →
    fieldAt b 4 1 = 0 → u.session.outstanding = [] →
    ∃ t : State, Sys2Proof.Machine.exec .transferAccept s = .next (t.serveUnassigned .up) ∧
    t.session.sessionId = some (fieldAt b 0 4) ∧
    t.session.window = some (min (max 1 (min (fieldAt b 5 1) 4)) u.settings.windowLimit) ∧
    t.session.batchExpected = (decide (fieldAt b 6 1 = 1) && decide (u.session.type = some .night)) ∧
    t.session.drainMark = u.journal.newest ∧ t.session.retry = 0 ∧ t.journal = u.journal ∧ t.clock = u.clock ∧
    (u.journal.slots ≠ [] → t.session.state = .draining) ∧
    (u.journal.slots = [] → t.session.state = if t.session.batchExpected then .receiving else .closing) ∧
    t = (State.sendBlocks { u with session := { u.session with
      timer := none, sessionId := t.session.sessionId, window := t.session.window, retry := 0, state := .draining
      batchExpected := t.session.batchExpected, drainMark := u.journal.newest, nextSend := u.journal.oldest } }).checkDrained ∧
    (∀ o d, u.journal.oldest = some o → u.journal.newest = some d → 1 ≤ u.settings.windowLimit →
      t.session.timer = some (1000 * u.settings.blockTimer) ∧
      ∃ x xs, t.session.outstanding = x :: xs ∧ x.number = u.session.nextBlock ∧ x.first = o ∧
        x.records = min 32 (d - o + 1))) ∧
  -- The next new block (R148), and where there is none.
  (∀ (x : Session) (w q d : Nat), x.window = some w → x.nextSend = some q → x.drainMark = some d → x.state = .draining →
    x.outstanding.length < w → (∀ b ∈ x.outstanding, b.condition = .offered) → q ≤ d →
    x.newBlock? = some ⟨x.nextBlock, q, min 32 (d - q + 1), .waiting 0, false⟩) ∧
  (∀ x : Session, x.window = none ∨ (∃ w, x.window = some w ∧ w ≤ x.outstanding.length) ∨ x.nextSend = none ∨
      x.drainMark = none ∨ (∃ q d, x.nextSend = some q ∧ x.drainMark = some d ∧ d < q) ∨ x.state ≠ .draining ∨
      (∃ b ∈ x.outstanding, b.condition ≠ .offered) → x.newBlock? = none) ∧
  -- New blocks are sent one after another while there is one.
  (∀ s : State, s.session.newBlock? = none → s.sendBlocks = s) ∧
  (∀ (s : State) (b : OutBlock), (∀ w ∈ s.session.window, w ≤ 4) → s.session.newBlock? = some b →
    s.sendBlocks = (s.sendBlock b).sendBlocks) ∧
  -- What sending a new block does.
  (∀ (s t : State) (b : OutBlock), t = s.sendBlock b →
    (∃ x : OutBlock, t.session.outstanding = s.session.outstanding ++ [x] ∧ x.number = b.number ∧ x.first = b.first ∧
      x.records = b.records) ∧
    t = { s with
      session := { s.session with
        nextSend := some (b.first + b.records), nextBlock := s.session.nextBlock + 1
        timer := some (s.session.timer.getD (1000 * s.settings.blockTimer))
        outstanding := t.session.outstanding, releaseNotice := t.session.releaseNotice }
      ports := t.ports, pool := t.pool, freeUsed := t.freeUsed
      management := { s.management with events := t.management.events } } ∧
    (∀ p c, (p, c) ≠ (.up, .bulk) → (p, c) ≠ (.ctl, .control) → t.queue p c = s.queue p c) ∧
    (∀ body frame, (s.blockSegments b)[0]? = some body →
      frame = buildMessage 0x42 s.headOfficeStation s.managementAddress b.number body →
      (s.loading = false → s.takesCopy .bulk .up = true → s.roomFor .bulk (cellsOf frame.length) = true →
        s.queue .up .bulk ++ [s.pool.nextRef] <+: t.queue .up .bulk ∧
        t.pool.frames.get? s.pool.nextRef = some ⟨.bulk, 1, .generated, frame⟩ ∧
        ((s.blockSegments b).length = 1 →
          t.session.outstanding = s.session.outstanding ++ [{ b with condition := .offered }])) ∧
      (s.loading = true ∨ s.takesCopy .bulk .up = false ∨ s.roomFor .bulk (cellsOf frame.length) = false →
        t.session.outstanding = s.session.outstanding ++ [{ b with condition := .waiting 0, counted := true }] ∧
        t.queue .up .bulk = s.queue .up .bulk))) ∧
  -- A block's segments are offered in order, up to the first refused (R149, R205).
  (∀ (s v : State) (b : OutBlock) (body : List Byte) (rest : List (List Byte)) (k : Nat) (frame : List Byte)
      (r : State × Admission × List EventKind),
    frame = buildMessage 0x42 s.headOfficeStation s.managementAddress b.number body →
    r = s.admitFrame .bulk .generated frame [.up] → v = r.1.drawStation →
    offerSegments b [] k s = (s, { b with condition := .offered }) ∧
    (r.2.1.taken = true → offerSegments b (body :: rest) k s = offerSegments b rest (k + 1) v) ∧
    (r.2.1.taken = false → offerSegments b (body :: rest) k s =
      (if b.counted then v else v.countAll r.2.2, { b with condition := .waiting k, counted := true }))) ∧
  -- The end of draining (R152).
  (∀ s : State, s.session.state ≠ .draining ∨ s.session.outstanding ≠ [] ∨
      (∃ q d, s.session.nextSend = some q ∧ s.session.drainMark = some d ∧ q ≤ d) → s.checkDrained = s) ∧
  (∀ s : State, s.session.state = .draining → s.session.outstanding = [] →
    (∀ q d, s.session.nextSend = some q → s.session.drainMark = some d → d < q) →
    (s.session.type = some .night → s.session.batchExpected = true → s.checkDrained = { s with session := { s.session with
      state := .receiving, retry := 0, timer := some (1000 * s.settings.blockTimer) } }) ∧
    (s.session.type ≠ some .night ∨ s.session.batchExpected = false →
      Spoken (State.drawStation { s with session := { s.session with
        state := .closing, retry := 0, timer := some (1000 * s.settings.blockTimer) } }) s.checkDrained ∧
      -- The first Transfer End is offered on entering Closing (R155).
      (∀ frame, s.loading = false → s.takesCopy .control .up = true →
        frame = buildMessage 0x49 s.headOfficeStation s.managementAddress s.session.openTag s.transferEndBody →
        s.roomFor .control (cellsOf frame.length) = true →
        s.checkDrained.queue .up .control = s.queue .up .control ++ [s.pool.nextRef] ∧
        s.checkDrained.pool.frames.get? s.pool.nextRef = some ⟨.control, 1, .generated, frame⟩))) ∧
  (∀ (s u : State) (f b : List Byte), s.Heard .up 0x41 f → u = s.takeHanded .up → b = frameBody f →
    transferAcceptOk b = true → u.session.state = .opening → u.session.openOffered = true →
    frameTag f = u.session.openTag → acceptTime b = none ∨ u.settings.management.takeOfficeTime = false →
    fieldAt b 4 1 = 1 →
    Sys2Proof.Machine.exec .transferAccept s = .next (State.serveUnassigned { u with session := { u.session with
      timer := none, sessionId := some (fieldAt b 0 4), state := .done, lastOutcome := some .declined } } .up)) ∧
  (∀ (s u : State) (f b : List Byte) (m : Moment), s.Heard .up 0x41 f → u = s.takeHanded .up → b = frameBody f →
    transferAcceptOk b = true → u.session.state = .opening → u.session.openOffered = true →
    frameTag f = u.session.openTag → fieldAt b 7 1 = 1 → m = ⟨fieldAt b 8 2, min (fieldAt b 10 4) 86399999⟩ →
    u.settings.management.takeOfficeTime = true →
    ∃ t : State, Sys2Proof.Machine.exec .transferAccept s = .next (t.serveUnassigned .up) ∧ t.clock = ⟨m, true⟩) ∧
  -- The body of a Transfer Open, field by field (R145).
  (∀ s : State, s.transferOpenBody =
    be 1 (match s.session.type with
      | some .trickle => 1
      | _ => 0) ++
    be 2 s.settings.management.branch ++ be 2 s.clock.now.day ++ be 4 s.clock.now.ms ++
    be 1 (if s.clock.valid then 1 else 0) ++
    be 1 (match s.mode with
      | .trading => 0
      | .closed => 1) ++
    beOption 4 (if s.journal.slots = [] then none else some (s.journal.nextValue - s.journal.slots.length)) ++
    be 2 s.journal.slots.length ++
    be 1 (match s.batch with
      | none => 0
      | some b => match b.state with
        | .receiving => 1
        | .armed => 2
        | .cutting => 3
        | .withdrawing => 4) ++
    beOption 4 (s.batch.map (fun b => b.number)) ++
    be 1 ((if s.management.causes.powerOn then 1 else 0) + (if s.management.causes.pin then 2 else 0) +
      (if s.management.causes.full then 4 else 0) + (if s.management.causes.soft then 8 else 0)) ++
    be 1 s.settings.windowLimit)

/-- A Block Ack acknowledges every outstanding block up to its number: their records leave the journal, the rest stay
outstanding, and the Retry Count falls to 0; in Draining the Timer is restarted, or stopped where no block is left, new blocks
follow where R148 makes them, and the end of draining is checked. One below them all changes nothing; a Rejected one fails the
session; one of another session, one above the newest block, or with none outstanding above the last made, and one in Opening or
an inactive state are out of place (log 35); a late one in Receiving or Closing, of a block already made, changes nothing. A
release notice acted on offers the Waiting blocks again and keeps every block in its place: the first held segment of the oldest
of them joins UP's Bulk queue where that takes it and the pool has room, and the block whose last held segment is admitted
becomes Offered; where it is refused the block waits on, and nothing is offered after it; where a block is admitted whole the
next Waiting one follows in the same way, and new blocks after the last. A block's segments carry its records in order, each
segment as many whole ones as fit (R148, R149, R150, R152, R159, R161, R205). That a removal that empties the journal clears the
Overflow Mark is the model's choice (log 52). That the answer to unassigned requests follows in the same step is log 3; the
destination where no head-office station is configured is log 11. -/
def Obligations.AcksRemoveAcknowledgedRecords : Prop :=
  (∀ (s u : State) (f b : List Byte) (n o last : Nat) (y z : OutBlock) (gone left : List OutBlock), s.Heard .up 0x43 f →
    u = s.takeHanded .up → b = frameBody f → b.length = 8 → u.session.sessionId = some (fieldAt b 0 4) →
    n = fieldAt b 4 2 → fieldAt b 6 1 = 0 → u.session.state = .draining ∨ u.session.state = .stopping →
    u.session.outstanding.getLast? = some y → n ≤ y.number →
    gone = u.session.outstanding.filter (fun x => decide (x.number ≤ n)) →
    left = u.session.outstanding.filter (fun x => !decide (x.number ≤ n)) → gone.getLast? = some z →
    last = z.first + z.records - 1 → u.journal.oldest = some o → o ≤ last →
    ∃ t : State, Sys2Proof.Machine.exec .blockAck s = .next (t.serveUnassigned .up) ∧
    t.journal.slots = u.journal.slots.drop (min (last + 1 - o) u.journal.slots.length) ∧
    t.journal.head = (u.journal.head + min (last + 1 - o) u.journal.slots.length) % 16384 ∧
    t.journal.nextSequence = u.journal.nextSequence ∧
    t.session.acknowledged = u.session.acknowledged + (gone.map OutBlock.records).sum ∧ t.session.retry = 0 ∧
    (u.session.state = .draining → left <+: t.session.outstanding ∧
      ∃ w : State, t = w.sendBlocks.checkDrained ∧ w.ports = u.ports ∧ w.pool = u.pool ∧ w.journal = t.journal ∧
      w.session = { u.session with
        outstanding := left, acknowledged := t.session.acknowledged, acked := w.session.acked, retry := 0
        timer := if left = [] then none else some (1000 * u.settings.blockTimer)
        releaseNotice := w.session.releaseNotice }) ∧
    (u.session.state = .stopping → left ≠ [] → t.session.outstanding = left ∧ t.session.state = .stopping) ∧
    (u.session.state = .stopping → left = [] → t.session.state = .cut ∧ t.session.lastOutcome = some .stopped)) ∧
  (∀ (s u : State) (f b : List Byte) (y : OutBlock), s.Heard .up 0x43 f → u = s.takeHanded .up → b = frameBody f →
    b.length = 8 → u.session.sessionId = some (fieldAt b 0 4) → fieldAt b 6 1 = 0 →
    u.session.state = .draining ∨ u.session.state = .stopping → u.session.outstanding.getLast? = some y →
    (∀ x ∈ u.session.outstanding, fieldAt b 4 2 < x.number) →
    Sys2Proof.Machine.exec .blockAck s = .next (u.serveUnassigned .up)) ∧
  (∀ (s u : State) (f b : List Byte) (y : OutBlock), s.Heard .up 0x43 f → u = s.takeHanded .up → b = frameBody f →
    b.length = 8 → u.session.sessionId = some (fieldAt b 0 4) → fieldAt b 6 1 = 1 →
    u.session.state = .draining ∨ u.session.state = .stopping → u.session.outstanding.getLast? = some y →
    fieldAt b 4 2 ≤ y.number →
    ∃ t : State, Sys2Proof.Machine.exec .blockAck s = .next (t.serveUnassigned .up) ∧ t.session.state = .failed ∧
    t.session.lastOutcome = some .blockRejected ∧ t.session.outstanding = [] ∧ t.session.timer = none ∧
    t.counter .nightFailed = min (u.counter .nightFailed + 1) 65535 ∧ t.journal = u.journal) ∧
  (∀ (s u : State) (f b : List Byte), s.Heard .up 0x43 f → u = s.takeHanded .up → b = frameBody f → b.length = 8 →
    fieldAt b 6 1 ≤ 1 → u.session.sessionId ≠ some (fieldAt b 0 4) →
    Sys2Proof.Machine.exec .blockAck s = .next (State.serveUnassigned { u with session := { u.session with
      outOfPlace := min (u.session.outOfPlace + 1) 65535 } } .up)) ∧
  (∀ s : State, s.session.releaseNotice = true → s.session.state = .draining ∨ s.session.state = .stopping →
    ∃ t : State, Sys2Proof.Machine.exec .waitingBlockReoffer s = .next t ∧ t.session.releaseNotice = false ∧
    s.session.outstanding.map OutBlock.number <+: t.session.outstanding.map OutBlock.number ∧ t.journal = s.journal) ∧
  (∀ (s : State) (pre post : List OutBlock) (b : OutBlock) (k : Nat) (body frame : List Byte),
    s.session.releaseNotice = true → s.session.state = .draining ∨ s.session.state = .stopping →
    s.session.outstanding = pre ++ b :: post → (∀ x ∈ pre, x.condition = .offered) → b.condition = .waiting k →
    (s.blockSegments b)[k]? = some body →
    frame = buildMessage 0x42 s.headOfficeStation s.managementAddress b.number body →
    ∃ t : State, Sys2Proof.Machine.exec .waitingBlockReoffer s = .next t ∧
    (s.loading = false → s.takesCopy .bulk .up = true → s.roomFor .bulk (cellsOf frame.length) = true →
      s.queue .up .bulk ++ [s.pool.nextRef] <+: t.queue .up .bulk ∧
      t.pool.frames.get? s.pool.nextRef = some ⟨.bulk, 1, .generated, frame⟩ ∧
      (k + 1 = (s.blockSegments b).length →
        t.session.outstanding[pre.length]? = some { b with condition := .offered })) ∧
    (s.loading = true ∨ s.takesCopy .bulk .up = false ∨ s.roomFor .bulk (cellsOf frame.length) = false →
      t.session.outstanding = pre ++ { b with condition := .waiting k, counted := true } :: post ∧
      t.queue .up .bulk = s.queue .up .bulk)) ∧
  -- A block's segments: its records in order, as many whole ones in each as fit in 1,494 bytes (R205).
  (∀ (s : State) (b : OutBlock) (o : Nat) (records : List Slot) (cuts : List (List Slot)), s.journal.oldest = some o →
    records = (s.journal.slots.drop (b.first - o)).take b.records → (∀ x ∈ records, (slotBytes x).length ≤ 1494) →
    cuts = cutFrom records [] →
    cuts.flatten = records ∧ (∀ c ∈ cuts, c ≠ [] ∧ (c.flatMap slotBytes).length ≤ 1494) ∧
    (∀ i c d x, cuts[i]? = some c → cuts[i + 1]? = some d → d.head? = some x →
      1494 < (c.flatMap slotBytes).length + (slotBytes x).length) ∧
    (s.blockSegments b).length = cuts.length ∧
    (∀ i c, cuts[i]? = some c → (s.blockSegments b)[i]? = some (be 4 (s.session.sessionId.getD 0) ++ be 2 b.number ++
      be 4 b.first ++ be 1 b.records ++ be 1 (i + 1) ++ be 1 cuts.length ++ be 1 c.length ++ c.flatMap slotBytes))) ∧
  -- Acks that acknowledge nothing: above the newest block, with no block outstanding, in Receiving and Closing, elsewhere (R150, R161).
  (∀ (s u : State) (f b : List Byte) (n : Nat), s.Heard .up 0x43 f → u = s.takeHanded .up → b = frameBody f →
    b.length = 8 → fieldAt b 6 1 ≤ 1 → u.session.sessionId = some (fieldAt b 0 4) → n = fieldAt b 4 2 →
    ((u.session.state = .draining ∨ u.session.state = .stopping) ∧
      ((∃ y, u.session.outstanding.getLast? = some y ∧ y.number < n) ∨
        (u.session.outstanding = [] ∧ u.session.nextBlock ≤ n))) ∨
    ((u.session.state = .receiving ∨ u.session.state = .closing) ∧ u.session.nextBlock ≤ n) ∨
    u.session.state = .opening ∨ u.session.state.active = false →
    Sys2Proof.Machine.exec .blockAck s = .next (State.serveUnassigned { u with session := { u.session with
      outOfPlace := min (u.session.outOfPlace + 1) 65535 } } .up)) ∧
  (∀ (s u : State) (f b : List Byte), s.Heard .up 0x43 f → u = s.takeHanded .up → b = frameBody f →
    b.length = 8 → fieldAt b 6 1 ≤ 1 → u.session.sessionId = some (fieldAt b 0 4) → fieldAt b 4 2 < u.session.nextBlock →
    u.session.state = .receiving ∨ u.session.state = .closing ∨
      ((u.session.state = .draining ∨ u.session.state = .stopping) ∧ u.session.outstanding = [] ∧ fieldAt b 6 1 = 0) →
    Sys2Proof.Machine.exec .blockAck s = .next (u.serveUnassigned .up)) ∧
  (∀ (s u : State) (f b : List Byte), s.Heard .up 0x43 f → u = s.takeHanded .up → b = frameBody f →
    b.length = 8 → u.session.sessionId = some (fieldAt b 0 4) → fieldAt b 4 2 < u.session.nextBlock → fieldAt b 6 1 = 1 →
    u.session.state = .draining ∨ u.session.state = .stopping → u.session.outstanding = [] →
    ∃ t : State, Sys2Proof.Machine.exec .blockAck s = .next (t.serveUnassigned .up) ∧ t.session.state = .failed ∧
    t.session.lastOutcome = some .blockRejected ∧ t.session.outstanding = [] ∧ t.session.timer = none ∧
    t.counter .nightFailed = min (u.counter .nightFailed + 1) 65535 ∧ t.journal = u.journal) ∧
  -- A re-offer: every Waiting block in turn from its first held segment, up to the first refused (R149).
  (∀ (s : State) (r : State × List OutBlock), s.session.releaseNotice = true →
    s.session.state = .draining ∨ s.session.state = .stopping → r = reofferBlocks s.session.outstanding s →
    Sys2Proof.Machine.exec .waitingBlockReoffer s = .next (State.sendBlocks { r.1 with
      session := { r.1.session with outstanding := r.2, releaseNotice := false } })) ∧
  (∀ s : State, reofferBlocks [] s = (s, [])) ∧
  (∀ (s : State) (b : OutBlock) (bs : List OutBlock), b.condition = .offered →
    reofferBlocks (b :: bs) s = ((reofferBlocks bs s).1, b :: (reofferBlocks bs s).2)) ∧
  (∀ (s : State) (b : OutBlock) (bs : List OutBlock) (k : Nat) (r : State × OutBlock), b.condition = .waiting k →
    r = offerSegments b ((s.blockSegments b).drop k) k s →
    (r.2.condition = .offered →
      reofferBlocks (b :: bs) s = ((reofferBlocks bs r.1).1, r.2 :: (reofferBlocks bs r.1).2)) ∧
    (r.2.condition ≠ .offered → reofferBlocks (b :: bs) s = (r.1, r.2 :: bs)))

/-- An End Ack of the session in Closing ends it Done, Complete, and counts NIGHT-DONE; a repeated one in Done changes nothing;
one in another state is out of place (R156, R161). That what then stands first and no row takes is answered in the same step is
log 3. -/
def Obligations.EndAckCompletesTheSession : Prop :=
  (∀ (s u : State) (f b : List Byte), s.Heard .up 0x4A f → u = s.takeHanded .up → b = frameBody f → b.length = 4 →
    u.session.sessionId = some (fieldAt b 0 4) → u.session.state = .closing →
    ∃ t : State, Sys2Proof.Machine.exec .endAck s = .next (t.serveUnassigned .up) ∧
    Spoken (State.raise { u with session := { u.session with
      state := .done, timer := none, lastOutcome := some .complete } } .nightDone 1) t) ∧
  (∀ (s u : State) (f b : List Byte), s.Heard .up 0x4A f → u = s.takeHanded .up → b = frameBody f → b.length = 4 →
    u.session.sessionId = some (fieldAt b 0 4) → u.session.state = .done →
    Sys2Proof.Machine.exec .endAck s = .next (u.serveUnassigned .up)) ∧
  (∀ (s u : State) (f b : List Byte), s.Heard .up 0x4A f → u = s.takeHanded .up → b = frameBody f → b.length = 4 →
    u.session.state ≠ .closing → u.session.state ≠ .done →
    Sys2Proof.Machine.exec .endAck s = .next (State.serveUnassigned { u with session := { u.session with
      outOfPlace := min (u.session.outOfPlace + 1) 65535 } } .up))

/-- The session Timer's expiry in Opening, Draining, Receiving and Closing raises Retry Count by 1. At 3 the session becomes
Failed with its state's Last Outcome, NIGHT-FAILED is counted, and a batch then Open is discarded. Below 3 the Timer is
restarted; Opening offers a fresh Transfer Open with the same Open Tag and Closing the Transfer End again, each joining UP's
Control queue where that takes it and the pool has room; Receiving sends nothing; Draining sends the outstanding blocks again,
oldest first: the first is offered from its first segment, or from its first held one where it was Waiting, and where it is
refused it and every later block wait and nothing more is offered; where it is admitted whole the next follows in the same way,
and new blocks after the last. The Transfer End carries the fields of R155, one by one. In Stopping the session is cut, Stopped,
whatever remains outstanding; in an inactive state nothing changes (R135, R146, R151, R154, R156, R157, R159, R205). That a
report not yet answered is dropped with the session is the model's choice (log 42), and so is NIGHT-FAILED or NIGHT-CUT before
BATCH-DISCARDED (log 53); a destination where no head-office station is configured is log 11, the layout of the bodies log 9,
and a new block that follows a resend in its step log 29. -/
def Obligations.TimerExpiriesRetryOrEndTheSession : Prop :=
  (∀ s : State, s.session.timer = some 0 → s.session.state = .receiving → s.session.retry + 1 < 3 →
    Sys2Proof.Machine.exec .blockTimerExpiry s = .next { s with session := { s.session with
      retry := s.session.retry + 1, timer := some (1000 * s.settings.blockTimer) } }) ∧
  (∀ (s : State) (why : LastOutcome), s.session.timer = some 0 → (s.session.state, why) ∈
      [(SessionState.opening, LastOutcome.openUnanswered), (.draining, .blocksUnacknowledged), (.receiving, .batchSilent),
        (.closing, .endUnanswered)] → 3 ≤ s.session.retry + 1 →
    ∃ t : State, Sys2Proof.Machine.exec .blockTimerExpiry s = .next t ∧
    t.session = { s.session with
      retry := s.session.retry + 1, state := .failed, timer := none, outstanding := []
      lastOutcome := some why, reportAsked := false, releaseNotice := false } ∧
    t.counter .nightFailed = min (s.counter .nightFailed + 1) 65535 ∧
    (∀ b, s.batch = some b → b.state = .receiving → t.batch = some { b with state := .withdrawing, position := 0 } ∧
      t.schedule = { s.schedule with cutover := none, inhibit := false } ∧
      t.counter .batchDiscarded = min (s.counter .batchDiscarded + 1) 65535) ∧
    ((∀ b, s.batch = some b → b.state ≠ .receiving) → t.batch = s.batch ∧ t.schedule = s.schedule) ∧
    t.journal = s.journal ∧ t.items = s.items) ∧
  (∀ s : State, s.session.timer = some 0 → s.session.state = .stopping →
    ∃ t : State, Sys2Proof.Machine.exec .blockTimerExpiry s = .next t ∧
    t.session = { s.session with
      state := .cut, timer := none, outstanding := [], lastOutcome := some .stopped, reportAsked := false
      releaseNotice := false } ∧
    t.counter .nightCut = min (s.counter .nightCut + 1) 65535 ∧
    ((∀ b, s.batch = some b → b.state ≠ .receiving) → t.batch = s.batch ∧ t.schedule = s.schedule) ∧
    t.journal = s.journal ∧ t.items = s.items) ∧
  (∀ s : State, s.session.timer = some 0 → s.session.state = .opening → s.session.retry + 1 < 3 →
    ∃ t : State, Sys2Proof.Machine.exec .blockTimerExpiry s = .next t ∧
    Spoken (State.drawStation { s with session := { s.session with
      retry := s.session.retry + 1, openOffered := true, timer := some (1000 * s.settings.blockTimer) } }) t ∧
    (∀ frame, s.loading = false → s.takesCopy .control .up = true →
      frame = buildMessage 0x40 s.headOfficeStation s.managementAddress s.session.openTag s.transferOpenBody →
      s.roomFor .control (cellsOf frame.length) = true →
      t.queue .up .control = s.queue .up .control ++ [s.pool.nextRef] ∧
      t.pool.frames.get? s.pool.nextRef = some ⟨.control, 1, .generated, frame⟩)) ∧
  (∀ s : State, s.session.timer = some 0 → s.session.state = .closing → s.session.retry + 1 < 3 →
    ∃ t : State, Sys2Proof.Machine.exec .blockTimerExpiry s = .next t ∧
    Spoken (State.drawStation { s with session := { s.session with
      retry := s.session.retry + 1, timer := some (1000 * s.settings.blockTimer) } }) t ∧
    (∀ frame, s.loading = false → s.takesCopy .control .up = true →
      frame = buildMessage 0x49 s.headOfficeStation s.managementAddress s.session.openTag s.transferEndBody →
      s.roomFor .control (cellsOf frame.length) = true →
      t.queue .up .control = s.queue .up .control ++ [s.pool.nextRef] ∧
      t.pool.frames.get? s.pool.nextRef = some ⟨.control, 1, .generated, frame⟩)) ∧
  (∀ s : State, s.session.timer = some 0 → s.session.state = .draining → s.session.retry + 1 < 3 →
    ∃ t : State, Sys2Proof.Machine.exec .blockTimerExpiry s = .next t ∧
    t.session.state = .draining ∧ t.session.retry = s.session.retry + 1 ∧
    t.session.timer = some (1000 * s.settings.blockTimer) ∧ t.journal = s.journal ∧
    s.session.outstanding.map OutBlock.number <+: t.session.outstanding.map OutBlock.number ∧
    (∀ (b : OutBlock) (bs : List OutBlock) (k : Nat) (body frame : List Byte), s.session.outstanding = b :: bs →
      k = (match b.condition with
        | .offered => 0
        | .waiting j => j) → (s.blockSegments b)[k]? = some body →
      frame = buildMessage 0x42 s.headOfficeStation s.managementAddress b.number body →
      (s.loading = false → s.takesCopy .bulk .up = true → s.roomFor .bulk (cellsOf frame.length) = true →
        s.queue .up .bulk ++ [s.pool.nextRef] <+: t.queue .up .bulk ∧
        t.pool.frames.get? s.pool.nextRef = some ⟨.bulk, 1, .generated, frame⟩ ∧
        (k + 1 = (s.blockSegments b).length → t.session.outstanding[0]? = some { b with condition := .offered })) ∧
      (s.loading = true ∨ s.takesCopy .bulk .up = false ∨ s.roomFor .bulk (cellsOf frame.length) = false →
        t.session.outstanding = { b with condition := .waiting k, counted := true } :: bs.map (fun x =>
          { x with condition := match x.condition with
            | .offered => .waiting 0
            | .waiting j => .waiting j }) ∧
        t.queue .up .bulk = s.queue .up .bulk))) ∧
  (∀ s : State, s.session.state.active = false → Sys2Proof.Machine.exec .blockTimerExpiry s = .next s) ∧
  -- A resend: every outstanding block in turn, up to the first refused (R151).
  (∀ (s : State) (r : State × List OutBlock), s.session.timer = some 0 → s.session.state = .draining →
    s.session.retry + 1 < 3 →
    r = resendBlocks s.session.outstanding { s with session := { s.session with retry := s.session.retry + 1 } } →
    Sys2Proof.Machine.exec .blockTimerExpiry s = .next (State.sendBlocks { r.1 with session := { r.1.session with
      outstanding := r.2, timer := some (1000 * s.settings.blockTimer)
      releaseNotice := r.1.session.releaseNotice && r.2.any (fun x => decide (x.condition ≠ .offered)) } })) ∧
  (∀ s : State, resendBlocks [] s = (s, [])) ∧
  (∀ (s : State) (b : OutBlock) (bs : List OutBlock) (k : Nat) (r : State × OutBlock),
    k = (match b.condition with
      | .offered => 0
      | .waiting j => j) →
    r = offerSegments b ((s.blockSegments b).drop k) k s →
    (r.2.condition = .offered →
      resendBlocks (b :: bs) s = ((resendBlocks bs r.1).1, r.2 :: (resendBlocks bs r.1).2)) ∧
    (r.2.condition ≠ .offered → resendBlocks (b :: bs) s = (r.1, r.2 :: bs.map (fun x =>
      { x with condition := match x.condition with
        | .offered => .waiting 0
        | .waiting j => .waiting j })))) ∧
  -- The body of a Transfer End, field by field (R155).
  (∀ s : State, s.transferEndBody =
    be 4 (s.session.sessionId.getD 0) ++
    be 1 (match s.session.type with
      | some .trickle => 1
      | _ => 0) ++
    be 2 s.session.acknowledged ++ beOption 4 (s.session.acked.map (fun x => x.1)) ++
    beOption 4 (s.session.acked.map (fun x => x.2)) ++
    (match s.session.verdict with
      | some (.good, n) => be 1 0 ++ beOption 4 (some n)
      | some (.bad, n) => be 1 1 ++ beOption 4 (some n)
      | some (.noBatch, n) => be 1 2 ++ beOption 4 (some n)
      | none => be 1 3 ++ beOption 4 none))

/-! ### Batches -/

/-- In Receiving, a Batch Open with no record makes one, inhibits CUTOVER and is answered Taken, the counts 0; the Batch Part
expected next applies its changes as stages and moves the counts and the Running Check, and its Part Ack carries the counts and
one result for each change; a Batch Open or Batch Part of any other status (Repeated, Busy, Range, No Batch, Not Open, Gap,
Excess) changes nothing and is answered with it; a change is Staged, Created at the lowest free index, or Rejected with Range,
Unknown or Full. A Batch Close that agrees arms the batch, loads or clears CUTOVER and closes the session, and one that does not
withdraws it; one that finds no Open record of its number is answered from the Last Verdict or with No Batch: in Receiving it
closes the session, a batch still Open being discarded, and in Closing nothing else changes. The Batch Verdict is offered to UP,
and where Receiving ends the first Transfer End follows it there, joining UP's Control queue where that takes it and the pool
has room (R121, R123-R129, R153, R155). That what then stands first and no row takes is answered in the same step is log 3; the
untabled layouts are log 9, the lengths of the bodies log 24, the counts of a Part Ack with no record and a destination where no
head-office station is configured log 11, the Rejected Count that the Last Verdict holds after Bad log 41, the Timer in Closing
log 46, the discard before the Transfer End log 47 and after the Batch Verdict log 71, and the counts of a close before its
Batch Verdict log 51. -/
def Obligations.BatchMessagesBuildTheBatch : Prop :=
  (∀ (s u : State) (f b : List Byte) (time : Option Moment), s.Heard .up 0x44 f → u = s.takeHanded .up →
    b = frameBody f → b.length = 13 → momentOptionAt b 6 = some time → u.session.state = .receiving → u.batch = none →
    1 ≤ fieldAt b 4 2 → fieldAt b 4 2 ≤ 32768 → (∀ m, time = some m → m.ms < 86400000) →
    ∃ t : State, Sys2Proof.Machine.exec .batchOpen s = .next (t.serveUnassigned .up) ∧
    (∀ w : State, w = { u with
        batch := some ⟨fieldAt b 0 4, fieldAt b 4 2, 0, 0, 1, 0xFFFFFFFF#32, time, .receiving, 0⟩
        schedule := { u.schedule with cutover := none, inhibit := true }
        session := { u.session with retry := 0, timer := some (1000 * u.settings.blockTimer) } } →
      t = w.sendHeadOffice 0x46 (frameTag f) (be 4 (fieldAt b 0 4) ++ be 1 0 ++ be 1 0 ++ (be 2 0 ++ be 2 0) ++ [])) ∧
    t.batch = some ⟨fieldAt b 0 4, fieldAt b 4 2, 0, 0, 1, 0xFFFFFFFF#32, time, .receiving, 0⟩ ∧
    t.schedule = { u.schedule with cutover := none, inhibit := true } ∧
    t.session = { u.session with retry := 0, timer := some (1000 * u.settings.blockTimer) } ∧ t.items = u.items) ∧
  (∀ (s u v : State) (f b : List Byte) (x : Batch) (n : Nat), s.Heard .up 0x45 f → u = s.takeHanded .up →
    b = frameBody f → n = fieldAt b 6 1 → 1 ≤ n → n ≤ 64 → b.length = 8 + 12 * n → u.session.state = .receiving →
    u.batch = some x → x.state = .receiving → x.number = fieldAt b 0 4 → x.nextPart = fieldAt b 4 2 →
    x.received + n ≤ x.declared →
    v = { u with session := { u.session with retry := 0, timer := some (1000 * u.settings.blockTimer) } } →
    ∃ t : State, Sys2Proof.Machine.exec .batchPart s = .next (t.serveUnassigned .up) ∧
    t.items = (applyChanges (piecesAt b 8 12 n) v).1.items ∧ t.labels = u.labels ∧ t.session = v.session ∧
    t.batch = some { x with
      received := x.received + n
      rejected := x.rejected + ((applyChanges (piecesAt b 8 12 n) v).2.filter ChangeResult.rejects).length
      nextPart := x.nextPart + 1
      check := crcCarry x.check (b.drop 8) } ∧
    (∀ w : State, w = { (applyChanges (piecesAt b 8 12 n) v).1 with batch := t.batch } →
      t = w.sendHeadOffice 0x46 (frameTag f) (be 4 x.number ++ be 1 0 ++ be 1 n ++ (be 2 (x.received + n) ++
        be 2 (x.rejected + ((applyChanges (piecesAt b 8 12 n) v).2.filter ChangeResult.rejects).length)) ++
        (applyChanges (piecesAt b 8 12 n) v).2.flatMap (fun r => be 1 (changeCode r))))) ∧
  (∀ (s u v : State) (f b : List Byte) (x : Batch) (time : Option Moment) (status : Nat), s.Heard .up 0x44 f →
    u = s.takeHanded .up → b = frameBody f → b.length = 13 → momentOptionAt b 6 = some time → u.session.state = .receiving →
    u.batch = some x → v = { u with session := { u.session with retry := 0, timer := some (1000 * u.settings.blockTimer) } } →
    status = (if fieldAt b 4 2 = 0 ∨ 32768 < fieldAt b 4 2 ∨ (∃ m, time = some m ∧ 86399999 < m.ms) then 3
      else if x.state = .receiving ∧ x.number = fieldAt b 0 4 ∧ x.declared = fieldAt b 4 2 ∧ x.cutoverTime = time then 1
      else 2) →
    Sys2Proof.Machine.exec .batchOpen s = .next ((v.sendHeadOffice 0x46 (frameTag f) (be 4 (fieldAt b 0 4) ++ be 1 status ++
      be 1 0 ++ (be 2 x.received ++ be 2 x.rejected) ++ [])).serveUnassigned .up)) ∧
  (∀ (s u v : State) (f b : List Byte) (x : Batch) (n part status : Nat), s.Heard .up 0x45 f → u = s.takeHanded .up →
    b = frameBody f → n = fieldAt b 6 1 → part = fieldAt b 4 2 → 8 ≤ b.length →
    (1 ≤ n → n ≤ 64 → b.length = 8 + 12 * n) → u.session.state = .receiving → u.batch = some x →
    v = { u with session := { u.session with retry := 0, timer := some (1000 * u.settings.blockTimer) } } →
    (x.number ≠ fieldAt b 0 4 ∧ status = 4) ∨
    (x.number = fieldAt b 0 4 ∧ x.state ≠ .receiving ∧ status = 5) ∨
    (x.number = fieldAt b 0 4 ∧ x.state = .receiving ∧ (n = 0 ∨ 64 < n) ∧ status = 3) ∨
    (x.number = fieldAt b 0 4 ∧ x.state = .receiving ∧ 1 ≤ n ∧ n ≤ 64 ∧ part < x.nextPart ∧ status = 1) ∨
    (x.number = fieldAt b 0 4 ∧ x.state = .receiving ∧ 1 ≤ n ∧ n ≤ 64 ∧ x.nextPart < part ∧ status = 6) ∨
    (x.number = fieldAt b 0 4 ∧ x.state = .receiving ∧ 1 ≤ n ∧ n ≤ 64 ∧ part = x.nextPart ∧ x.declared < x.received + n ∧
      status = 7) →
    Sys2Proof.Machine.exec .batchPart s = .next ((v.sendHeadOffice 0x46 (frameTag f) (be 4 (fieldAt b 0 4) ++ be 1 status ++
      be 1 0 ++ (be 2 x.received ++ be 2 x.rejected) ++ [])).serveUnassigned .up)) ∧
  (∀ (c : Instr) (s u v : State) (f b : List Byte) (status : Nat), u = s.takeHanded .up → b = frameBody f →
    (s.Heard .up 0x44 f ∧ c = .batchOpen ∧ b.length = 13 ∧ (∃ time, momentOptionAt b 6 = some time ∧
      (fieldAt b 4 2 = 0 ∨ 32768 < fieldAt b 4 2 ∨ ∃ m, time = some m ∧ 86399999 < m.ms)) ∧ status = 3) ∨
    (s.Heard .up 0x45 f ∧ c = .batchPart ∧ 8 ≤ b.length ∧
      (1 ≤ fieldAt b 6 1 → fieldAt b 6 1 ≤ 64 → b.length = 8 + 12 * fieldAt b 6 1) ∧ status = 4) →
    u.session.state = .receiving → u.batch = none →
    v = { u with session := { u.session with retry := 0, timer := some (1000 * u.settings.blockTimer) } } →
    ∃ received rejected : Nat, Sys2Proof.Machine.exec c s = .next (((v.sendHeadOffice 0x46 (frameTag f)
      (be 4 (fieldAt b 0 4) ++ be 1 status ++ be 1 0 ++ (be 2 received ++ be 2 rejected) ++ [])).drawCounts).serveUnassigned
        .up)) ∧
  (∀ (s : State) (e : List Byte) (fl : ItemFlags) (k : Nat) (it : Item), itemFlagsOf? (fieldAt e 10 1 % 128) = some fl →
    codeOk (fieldAt e 0 6) = true → fieldAt e 6 4 ≤ 9999999 → s.findItem (fieldAt e 0 6) = some (k, it) →
    s.applyChange e = ({ s with items := Table.put k { it with staged := some (fieldAt e 6 4, fl) } s.items }, .staged)) ∧
  (∀ (s : State) (e : List Byte), itemFlagsOf? (fieldAt e 10 1 % 128) = none ∨ codeOk (fieldAt e 0 6) = false ∨
    9999999 < fieldAt e 6 4 → s.applyChange e = (s, .rejectedRange)) ∧
  (∀ (s : State) (e : List Byte) (fl : ItemFlags), itemFlagsOf? (fieldAt e 10 1 % 128) = some fl →
    codeOk (fieldAt e 0 6) = true → fieldAt e 6 4 ≤ 9999999 → s.findItem (fieldAt e 0 6) = none →
    (fieldAt e 10 1 < 128 → s.applyChange e = (s, .rejectedUnknown)) ∧
    (128 ≤ fieldAt e 10 1 → 32768 ≤ s.items.length → s.applyChange e = (s, .rejectedFull)) ∧
    (∀ it, 128 ≤ fieldAt e 10 1 → s.items.length < 32768 →
      it = ⟨fieldAt e 0 6, none, ⟨false, false, false⟩, some (fieldAt e 6 4, fl), [], none⟩ →
      s.applyChange e = ({ s with items := Table.put s.items.lowestFree it s.items }, .created))) ∧
  (∀ (s u : State) (f b : List Byte) (x : Batch), s.Heard .up 0x47 f → u = s.takeHanded .up → b = frameBody f →
    b.length = 10 → u.session.state = .receiving → u.batch = some x → x.state = .receiving → x.number = fieldAt b 0 4 →
    fieldAt b 4 2 = x.declared → fieldAt b 4 2 = x.received → fieldAt b 6 4 = x.check.toNat →
    ∃ t : State, Sys2Proof.Machine.exec .batchClose s = .next (t.serveUnassigned .up) ∧
    t.lastVerdict = some ⟨x.number, true, x.rejected⟩ ∧ t.session.verdict = some (.good, x.number) ∧
    t.session.state = .closing ∧ t.counter .batchArmed = min (u.counter .batchArmed + 1) 65535 ∧
    (x.cutoverTime = none → t.batch = some { x with state := .armed } ∧
      t.schedule = { u.schedule with cutover := none, inhibit := false }) ∧
    (∀ m, x.cutoverTime = some m → u.clock.valid = false ∨ Moment.le m u.clock.now = false →
      t.batch = some { x with state := .armed } ∧ t.schedule = { u.schedule with cutover := some m, inhibit := false }) ∧
    (∀ m, x.cutoverTime = some m → u.clock.valid = true → Moment.le m u.clock.now = true →
      t.batch = some { x with state := .cutting, position := 0 } ∧
      t.schedule = { u.schedule with inhibit := false } ∧
      t.counter .lateCutover = min (u.counter .lateCutover + 1) 65535)) ∧
  (∀ (s u : State) (f b : List Byte) (x : Batch), s.Heard .up 0x47 f → u = s.takeHanded .up → b = frameBody f →
    b.length = 10 → u.session.state = .receiving → u.batch = some x → x.state = .receiving → x.number = fieldAt b 0 4 →
    ¬ (fieldAt b 4 2 = x.declared ∧ fieldAt b 4 2 = x.received ∧ fieldAt b 6 4 = x.check.toNat) →
    ∃ t : State, Sys2Proof.Machine.exec .batchClose s = .next (t.serveUnassigned .up) ∧
    t.lastVerdict = some ⟨x.number, false, x.rejected⟩ ∧ t.session.verdict = some (.bad, x.number) ∧
    t.session.state = .closing ∧ t.counter .batchBad = min (u.counter .batchBad + 1) 65535 ∧
    t.batch = some { x with state := .withdrawing, position := 0 } ∧
    t.schedule = { u.schedule with cutover := none, inhibit := false }) ∧
  (∀ (s u : State) (f b body : List Byte) (kind : VerdictKind) (rejected : Nat), s.Heard .up 0x47 f → u = s.takeHanded .up →
    b = frameBody f → b.length = 10 →
    (∀ x, u.batch = some x → x.state = .receiving → x.number ≠ fieldAt b 0 4) →
    (kind, rejected) = (match u.lastVerdict with
      | some w => if w.number = fieldAt b 0 4 then (if w.good then (.good, w.rejected) else (.bad, 0)) else (.noBatch, 0)
      | none => (.noBatch, 0)) → body = verdictBody (fieldAt b 0 4) kind rejected →
    (u.session.state = .closing →
      Sys2Proof.Machine.exec .batchClose s = .next ((u.sendHeadOffice 0x48 (frameTag f) body).serveUnassigned .up)) ∧
    (u.session.state = .receiving →
      ∃ t : State, Sys2Proof.Machine.exec .batchClose s = .next (t.serveUnassigned .up) ∧
      t.session.verdict = some (kind, fieldAt b 0 4) ∧ t.session.state = .closing ∧ t.session.retry = 0 ∧
      t.session.timer = some (1000 * u.settings.blockTimer) ∧ t.lastVerdict = u.lastVerdict ∧ t.items = u.items ∧
      (∀ x, u.batch = some x → x.state = .receiving → t.batch = some { x with state := .withdrawing, position := 0 } ∧
        t.counter .batchDiscarded = min (u.counter .batchDiscarded + 1) 65535) ∧
      ((∀ x, u.batch = some x → x.state ≠ .receiving) → t.batch = u.batch ∧ t.schedule = u.schedule))) ∧
  (∀ (s u v w : State) (f b : List Byte) (r : State × VerdictKind × Nat), s.Heard .up 0x47 f → u = s.takeHanded .up →
    b = frameBody f → b.length = 10 → u.session.state = .receiving →
    v = { u with session := { u.session with retry := 0, timer := some (1000 * u.settings.blockTimer) } } →
    r = v.closeBatch (fieldAt b 0 4) (fieldAt b 4 2) (fieldAt b 6 4) →
    w = r.1.sendHeadOffice 0x48 (frameTag f) (verdictBody (fieldAt b 0 4) r.2.1 r.2.2) →
    ∃ t : State, Sys2Proof.Machine.exec .batchClose s = .next (t.serveUnassigned .up) ∧
    t.session.verdict = some (r.2.1, fieldAt b 0 4) ∧ (∀ p c, w.queue p c <+: t.queue p c) ∧
    -- The first Transfer End is offered on entering Closing (R155).
    (∀ y frame, y = State.discardBatch { w with session := { w.session with
        verdict := some (r.2.1, fieldAt b 0 4) } } → y.loading = false → y.takesCopy .control .up = true →
      frame = buildMessage 0x49 y.headOfficeStation y.managementAddress y.session.openTag y.transferEndBody →
      y.roomFor .control (cellsOf frame.length) = true →
      t.queue .up .control = y.queue .up .control ++ [y.pool.nextRef] ∧
      t.pool.frames.get? y.pool.nextRef = some ⟨.control, 1, .generated, frame⟩) ∧
    ∀ ref, ref < w.pool.nextRef → t.pool.frames.get? ref = w.pool.frames.get? ref)

/-- A step of the Cutover Sweep makes a stage active and moves on, and the last one ends the record with CUTOVER-DONE counted; a
changed Active Price is noticed to each label of the item: a Current or Stale one joins its queue's tail, Attempts 0, or stands
Stale where the queue is full, LABEL-STALE counted for one that was Current, and any other is left. A step of the Withdraw Sweep
drops a stage, removing an item that had nothing else and detaching its labels, and the last one ends the record. Cutover Now
starts the sweep of an Armed batch and clears CUTOVER (R95, R100, R130, R131, R133, R136, R137). That the last price notice
comes before CUTOVER-DONE is the model's choice (log 54), and so is the answer to what stands first after Cutover Now (log 3).
Batch Withdraw of an Armed batch clears CUTOVER, makes the record Withdrawing at Sweep Position 0 and is answered Done, the Last
Verdict kept; in every other state, and with no record, it is refused with State (R134). That what then stands first on the port
and no row takes is answered in the same step is the model's choice (log 3). -/
def Obligations.SweepsWalkTheItems : Prop :=
  (∀ (s : State) (b : Batch) (it : Item) (price : Nat) (fl : ItemFlags), s.batch = some b → b.state = .cutting →
    b.position + 1 < 32768 → s.items.get? b.position = some it → it.staged = some (price, fl) →
    ∃ t : State, Sys2Proof.Machine.exec .cutoverSweepStep s = .next t ∧
    OnlyLabelsMoved { s with batch := some { b with position := b.position + 1 } } t ∧
    t.items = Table.put b.position { it with active := some price, flags := fl, staged := none } s.items ∧
    (it.active = some price → t.labels = s.labels)) ∧
  (∀ (s v w : State) (b : Batch) (it : Item) (price : Nat) (fl : ItemFlags), s.batch = some b → b.state = .cutting →
    s.items.get? b.position = some it → it.staged = some (price, fl) →
    v = { s with items := Table.put b.position { it with active := some price, flags := fl, staged := none } s.items } →
    w = (if it.active = some price then v else v.priceNotice b.position) →
    (b.position + 1 < 32768 →
      Sys2Proof.Machine.exec .cutoverSweepStep s = .next { w with batch := some { b with position := b.position + 1 } }) ∧
    (32768 ≤ b.position + 1 → ∃ t : State, Sys2Proof.Machine.exec .cutoverSweepStep s = .next t ∧
      Spoken (State.raise { w with batch := none } .cutoverDone 1) t)) ∧
  (∀ (v : State) (k : Nat) (it : Item), v.items.get? k = some it → v.priceNotice k = it.labels.foldl State.noticeLabel v) ∧
  (∀ (v : State) (id i : Nat) (lab : Label), v.findLabel id = some (i, lab) →
    (lab.state = .current ∨ lab.state = .stale → (v.link lab.link).queue.length < 512 → v.noticeLabel id = { v with
      labels := Table.put i { lab with state := .queued, attempts := 0 } v.labels
      links := v.links.set lab.link { v.link lab.link with queue := (v.link lab.link).queue ++ [i] } }) ∧
    (lab.state = .current → 512 ≤ (v.link lab.link).queue.length → Spoken (State.raise { v with
      labels := Table.put i { lab with state := .stale, attempts := 0 } v.labels } .labelStale 1) (v.noticeLabel id)) ∧
    (lab.state = .stale → 512 ≤ (v.link lab.link).queue.length → v.noticeLabel id = v) ∧
    (lab.state ≠ .current → lab.state ≠ .stale → v.noticeLabel id = v)) ∧
  (∀ (s : State) (b : Batch), s.batch = some b → b.state = .cutting → b.position + 1 < 32768 →
    (∀ it, s.items.get? b.position = some it → it.staged = none) →
    Sys2Proof.Machine.exec .cutoverSweepStep s = .next { s with batch := some { b with position := b.position + 1 } }) ∧
  (∀ (s : State) (b : Batch), s.batch = some b → b.state = .cutting → b.position + 1 = 32768 →
    (∀ it, s.items.get? b.position = some it → it.staged = none) →
    ∃ t : State, Sys2Proof.Machine.exec .cutoverSweepStep s = .next t ∧
    Spoken (State.raise { s with batch := none } .cutoverDone 1) t) ∧
  (∀ (s : State) (b : Batch) (it : Item), s.batch = some b → b.state = .withdrawing → b.position + 1 < 32768 →
    s.items.get? b.position = some it → it.staged.isSome = true → it.active.isSome = true →
    Sys2Proof.Machine.exec .withdrawSweepStep s = .next { s with
      batch := some { b with position := b.position + 1 }
      items := Table.put b.position { it with staged := none } s.items }) ∧
  (∀ (s : State) (b : Batch) (it : Item), s.TablesCanonical → s.batch = some b → b.state = .withdrawing →
    b.position + 1 < 32768 → s.items.get? b.position = some it → it.staged.isSome = true → it.active = none →
    ∃ t : State, Sys2Proof.Machine.exec .withdrawSweepStep s = .next t ∧
    OnlyLabelsMoved { s with batch := some { b with position := b.position + 1 } } t ∧
    t.items.get? b.position = none ∧
    (∀ id ∈ it.labels, ∀ i l, s.findLabel id = some (i, l) →
      t.labels.get? i = some { l with item := none, attempts := 0, state := .unassigned })) ∧
  (∀ (s : State) (b : Batch) (it : Item), s.batch = some b → b.state = .withdrawing → 32768 ≤ b.position + 1 →
    s.items.get? b.position = some it → it.staged.isSome = true →
    (it.active.isSome = true → Sys2Proof.Machine.exec .withdrawSweepStep s = .next { s with
      batch := none
      items := Table.put b.position { it with staged := none } s.items }) ∧
    (it.active = none → s.TablesCanonical → ∃ t : State, Sys2Proof.Machine.exec .withdrawSweepStep s = .next t ∧
      OnlyLabelsMoved { s with batch := none } t ∧ t.items.get? b.position = none ∧
      ∀ id ∈ it.labels, ∀ i l, s.findLabel id = some (i, l) →
        t.labels.get? i = some { l with item := none, attempts := 0, state := .unassigned })) ∧
  (∀ (s : State) (b : Batch), s.batch = some b → b.state = .withdrawing →
    (∀ it, s.items.get? b.position = some it → it.staged = none) →
    (b.position + 1 < 32768 → Sys2Proof.Machine.exec .withdrawSweepStep s =
      .next { s with batch := some { b with position := b.position + 1 } }) ∧
    (32768 ≤ b.position + 1 → Sys2Proof.Machine.exec .withdrawSweepStep s = .next { s with batch := none })) ∧
  (∀ (s u : State) (src : Source) (f p : List Byte) (b : Batch), s.Takes src 99 f u p → u.batch = some b →
    b.state = .armed →
    Sys2Proof.Machine.exec (.cutoverNow src) s = .next (State.answer { u with
      schedule := { u.schedule with cutover := none, inhibit := false }
      batch := some { b with state := .cutting, position := 0 } } src f 99 .done [])) ∧
  (∀ (s u : State) (src : Source) (f p : List Byte), s.Takes src 99 f u p → (∀ b, u.batch = some b → b.state ≠ .armed) →
    Sys2Proof.Machine.exec (.cutoverNow src) s = .next (u.answer src f 99 .state [])) ∧
  (∀ (s u : State) (src : Source) (f p : List Byte) (b : Batch), s.Takes src 98 f u p → u.batch = some b →
    b.state = .armed →
    Sys2Proof.Machine.exec (.batchWithdraw src) s = .next (State.answer { u with
      schedule := { u.schedule with cutover := none, inhibit := false }
      batch := some { b with state := .withdrawing, position := 0 }
      lastVerdict := u.lastVerdict } src f 98 .done [])) ∧
  (∀ (s u : State) (src : Source) (f p : List Byte), s.Takes src 98 f u p →
    (∀ b, u.batch = some b → b.state = .receiving ∨ b.state = .cutting ∨ b.state = .withdrawing) →
    Sys2Proof.Machine.exec (.batchWithdraw src) s = .next (u.answer src f 98 .state []))

/-! ### Guests -/

/-- Guest Admit makes a station's entry Admitted on its terms, each given or left to its default, with full buckets and its
budgets to spend, or makes such an entry at the lowest free slot, or at a full table in place of the Expired entry with the
earliest Hold-until, which Reclaims counts. It is refused with Range for an address or a term outside its range, with State
while Closed, for a station that the Address Table holds and for a Barred entry, and with Full where no entry can be reclaimed.
Guest Bar makes an entry Barred or makes a Barred one in the same way, refused with Range, State and Full likewise; Guest Unbar
removes a Barred entry, refused with Range, Unknown, or State for another. Guest End: a group address and the management station
address are refused with Range, a station the table does not hold with Unknown, a Barred entry with State; a Pending, Admitted
or Throttled entry becomes Expired with its hold running, an Expired one is left as it is, and both are answered Done, in both
Store Modes. An Expiry and a hold run from Store Time, carry whole days, and stand at day 65,535, ms 86,399,999 where the sum
lies beyond (R165, R167, R170, R171, R172, R176). The layout of the parameters and the width of the slot in Guest Admit's
results are the model's choice (log 9), a presence byte other than 0 and 1 is log 23, and that what then stands first on the
port and no row takes is answered in the same step log 3. -/
def Obligations.GuestRequestsMakeEntries : Prop :=
  (∀ (s u : State) (src : Source) (f p : List Byte) (a : Station) (x : AdmitTerms) (k : Nat) (g : Guest),
    s.Takes src 64 f u p → 26 ≤ p.length → a = stationAt p 0 → u.guestAddressOk a = true →
    admitTerms? u.settings.guest p = some x → u.mode = .trading → u.findAddress a = none → u.findGuest a = some (k, g) →
    g.state ≠ .barred →
    Sys2Proof.Machine.exec (.guestAdmit src) s = .next ((u.putGuest k { g with
      state := .admitted (if x.duration = 0 then none else some (Moment.plus u.clock.now (1000 * x.duration)))
      stamp := u.guests.closingNumber
      upBudget := x.up
      downBudget := x.down
      upRemaining := if x.up = 0 then none else some x.up
      downRemaining := if x.down = 0 then none else some x.down
      rate := x.rate
      upBucket := 3072000
      downBucket := 3072000 }).answer src f 64 .done (be 2 k))) ∧
  (∀ (s u : State) (src : Source) (f p : List Byte) (a : Station) (x : AdmitTerms) (k : Nat),
    s.Takes src 64 f u p → 26 ≤ p.length → a = stationAt p 0 → u.guestAddressOk a = true →
    admitTerms? u.settings.guest p = some x → u.mode = .trading → u.findAddress a = none → u.findGuest a = none →
    u.guests.table.length < 1024 → k = u.guests.table.lowestFree →
    Sys2Proof.Machine.exec (.guestAdmit src) s = .next ((u.putGuest k {
      station := a
      port := none
      state := .admitted (if x.duration = 0 then none else some (Moment.plus u.clock.now (1000 * x.duration)))
      created := u.clock.now
      stamp := u.guests.closingNumber
      upBudget := x.up
      downBudget := x.down
      upRemaining := if x.up = 0 then none else some x.up
      downRemaining := if x.down = 0 then none else some x.down
      rate := x.rate
      upBucket := 3072000
      downBucket := 3072000 }).answer src f 64 .done (be 2 k))) ∧
  (∀ (s u : State) (src : Source) (f p : List Byte) (x : AdmitTerms), s.Takes src 64 f u p → 26 ≤ p.length →
    u.guestAddressOk (stationAt p 0) = true → admitTerms? u.settings.guest p = some x → u.mode = .closed →
    Sys2Proof.Machine.exec (.guestAdmit src) s = .next (u.answer src f 64 .state [])) ∧
  (∀ (s u : State) (src : Source) (f p : List Byte) (a : Station) (k : Nat) (g : Guest), s.Takes src 66 f u p →
    6 ≤ p.length → a = stationAt p 0 → u.guestAddressOk a = true → u.findAddress a = none → u.findGuest a = some (k, g) →
    Sys2Proof.Machine.exec (.guestBar src) s =
      .next ((u.putGuest k { g with state := .barred, upRemaining := none, downRemaining := none }).answer src f 66 .done [])) ∧
  (∀ (s u : State) (src : Source) (f p : List Byte) (a : Station), s.Takes src 66 f u p →
    6 ≤ p.length → a = stationAt p 0 → u.guestAddressOk a = true → u.findAddress a = none → u.findGuest a = none →
    u.guests.table.length < 1024 →
    ∃ g : Guest, Sys2Proof.Machine.exec (.guestBar src) s =
      .next ((u.putGuest u.guests.table.lowestFree g).answer src f 66 .done []) ∧
    g.station = a ∧ g.port = none ∧ g.state = .barred ∧ g.upRemaining = none ∧ g.downRemaining = none ∧
    g.created = u.clock.now ∧ g.stamp = u.guests.closingNumber) ∧
  (∀ (s u : State) (src : Source) (f p : List Byte) (a : Station) (k : Nat) (g : Guest), s.Takes src 67 f u p →
    6 ≤ p.length → a = stationAt p 0 → u.guestAddressOk a = true → u.findGuest a = some (k, g) → g.state = .barred →
    Sys2Proof.Machine.exec (.guestUnbar src) s = .next ((u.dropGuest k).answer src f 67 .done [])) ∧
  (∀ (s u : State) (src : Source) (f p : List Byte) (a : Station) (k : Nat) (g : Guest), s.Takes src 67 f u p →
    6 ≤ p.length → a = stationAt p 0 → u.guestAddressOk a = true → u.findGuest a = some (k, g) → g.state ≠ .barred →
    Sys2Proof.Machine.exec (.guestUnbar src) s = .next (u.answer src f 67 .state [])) ∧
  -- The terms of a Guest Admit: each given or left to its default, the duration and the rate within their ranges (R170).
  (∀ (d : GuestSettings) (p : List Byte) (x : AdmitTerms), admitTerms? d p = some x ↔
    fieldAt p 6 1 ≤ 1 ∧ fieldAt p 11 1 ≤ 1 ∧ fieldAt p 16 1 ≤ 1 ∧ fieldAt p 21 1 ≤ 1 ∧
    x.duration = (if fieldAt p 6 1 = 1 then fieldAt p 7 4 else d.duration) ∧
    x.up = (if fieldAt p 11 1 = 1 then fieldAt p 12 4 else d.upBudget) ∧
    x.down = (if fieldAt p 16 1 = 1 then fieldAt p 17 4 else d.downBudget) ∧
    x.rate = (if fieldAt p 21 1 = 1 then fieldAt p 22 4 else d.rate) ∧
    (x.duration = 0 ∨ (60 ≤ x.duration ∧ x.duration ≤ 604800)) ∧
    (x.rate = 0 ∨ (1000 ≤ x.rate ∧ x.rate ≤ 12500000))) ∧
  (∀ (s : State) (a : Station), s.guestAddressOk a = true ↔ isGroup a = false ∧ a ≠ s.managementAddress) ∧
  -- What refuses a Guest Admit, in the order of R170's checks.
  (∀ (s u : State) (src : Source) (f p : List Byte), s.Takes src 64 f u p →
    p.length < 26 ∨ u.guestAddressOk (stationAt p 0) = false ∨ admitTerms? u.settings.guest p = none →
    Sys2Proof.Machine.exec (.guestAdmit src) s = .next (u.answer src f 64 .range [])) ∧
  (∀ (s u : State) (src : Source) (f p : List Byte) (x : AdmitTerms), s.Takes src 64 f u p → 26 ≤ p.length →
    u.guestAddressOk (stationAt p 0) = true → admitTerms? u.settings.guest p = some x →
    (u.findAddress (stationAt p 0)).isSome = true ∨
      (∃ k g, u.findGuest (stationAt p 0) = some (k, g) ∧ g.state = .barred) →
    Sys2Proof.Machine.exec (.guestAdmit src) s = .next (u.answer src f 64 .state [])) ∧
  (∀ (s u : State) (src : Source) (f p : List Byte) (x : AdmitTerms), s.Takes src 64 f u p → 26 ≤ p.length →
    u.guestAddressOk (stationAt p 0) = true → admitTerms? u.settings.guest p = some x → u.mode = .trading →
    u.findAddress (stationAt p 0) = none → u.findGuest (stationAt p 0) = none → 1024 ≤ u.guests.table.length →
    (∀ kv ∈ u.guests.table, ∀ hold, kv.2.state ≠ .expired hold) →
    Sys2Proof.Machine.exec (.guestAdmit src) s = .next (u.answer src f 64 .full [])) ∧
  -- A full table: the Expired entry with the earliest Hold-until, at the lowest slot, gives its slot up (R167, R170, R172).
  (∀ (s u v : State) (src : Source) (f p : List Byte) (a : Station) (x : AdmitTerms) (k : Nat) (e : Guest) (hold : Moment),
    s.Takes src 64 f u p → 26 ≤ p.length → a = stationAt p 0 → u.guestAddressOk a = true →
    admitTerms? u.settings.guest p = some x → u.mode = .trading → u.findAddress a = none → u.findGuest a = none →
    1024 ≤ u.guests.table.length → Table.wf u.guests.table → u.guests.table.get? k = some e → e.state = .expired hold →
    (∀ kv ∈ u.guests.table, ∀ h, kv.2.state = .expired h → Moment.le hold h = true ∧ (h = hold → k ≤ kv.1)) →
    v = { u with guests := { u.guests with
      table := Table.del k u.guests.table, reclaims := min (u.guests.reclaims + 1) 65535 } } →
    Sys2Proof.Machine.exec (.guestAdmit src) s = .next ((v.putGuest k {
      station := a
      port := none
      state := .admitted (if x.duration = 0 then none else some (Moment.plus u.clock.now (1000 * x.duration)))
      created := u.clock.now
      stamp := u.guests.closingNumber
      upBudget := x.up
      downBudget := x.down
      upRemaining := if x.up = 0 then none else some x.up
      downRemaining := if x.down = 0 then none else some x.down
      rate := x.rate
      upBucket := 3072000
      downBucket := 3072000 }).answer src f 64 .done (be 2 k))) ∧
  (∀ (s u v : State) (src : Source) (f p : List Byte) (a : Station) (k : Nat) (e : Guest) (hold : Moment),
    s.Takes src 66 f u p → 6 ≤ p.length → a = stationAt p 0 → u.guestAddressOk a = true → u.findAddress a = none →
    u.findGuest a = none → 1024 ≤ u.guests.table.length → Table.wf u.guests.table → u.guests.table.get? k = some e →
    e.state = .expired hold →
    (∀ kv ∈ u.guests.table, ∀ h, kv.2.state = .expired h → Moment.le hold h = true ∧ (h = hold → k ≤ kv.1)) →
    v = { u with guests := { u.guests with
      table := Table.del k u.guests.table, reclaims := min (u.guests.reclaims + 1) 65535 } } →
    ∃ g : Guest, Sys2Proof.Machine.exec (.guestBar src) s = .next ((v.putGuest k g).answer src f 66 .done []) ∧
    g.station = a ∧ g.port = none ∧ g.state = .barred ∧ g.upRemaining = none ∧ g.downRemaining = none ∧
    g.created = u.clock.now ∧ g.stamp = u.guests.closingNumber) ∧
  -- What refuses a Guest Bar and a Guest Unbar (R172).
  (∀ (s u : State) (src : Source) (f p : List Byte), s.Takes src 66 f u p →
    (p.length < 6 ∨ u.guestAddressOk (stationAt p 0) = false →
      Sys2Proof.Machine.exec (.guestBar src) s = .next (u.answer src f 66 .range [])) ∧
    (6 ≤ p.length → u.guestAddressOk (stationAt p 0) = true → (u.findAddress (stationAt p 0)).isSome = true →
      Sys2Proof.Machine.exec (.guestBar src) s = .next (u.answer src f 66 .state [])) ∧
    (6 ≤ p.length → u.guestAddressOk (stationAt p 0) = true → u.findAddress (stationAt p 0) = none →
      u.findGuest (stationAt p 0) = none → 1024 ≤ u.guests.table.length →
      (∀ kv ∈ u.guests.table, ∀ hold, kv.2.state ≠ .expired hold) →
      Sys2Proof.Machine.exec (.guestBar src) s = .next (u.answer src f 66 .full []))) ∧
  (∀ (s u : State) (src : Source) (f p : List Byte), s.Takes src 67 f u p →
    (p.length < 6 ∨ u.guestAddressOk (stationAt p 0) = false →
      Sys2Proof.Machine.exec (.guestUnbar src) s = .next (u.answer src f 67 .range [])) ∧
    (6 ≤ p.length → u.guestAddressOk (stationAt p 0) = true → u.findGuest (stationAt p 0) = none →
      Sys2Proof.Machine.exec (.guestUnbar src) s = .next (u.answer src f 67 .unknown []))) ∧
  -- A sum of Store Time and whole milliseconds carries whole days and stands at the last pair before the wrap (R176).
  (∀ (m : Moment) (n : Nat),
    (m.day + (m.ms + n) / 86400000 ≤ 65535 →
      Moment.plus m n = ⟨m.day + (m.ms + n) / 86400000, (m.ms + n) % 86400000⟩) ∧
    (65535 < m.day + (m.ms + n) / 86400000 → Moment.plus m n = ⟨65535, 86399999⟩)) ∧
  (∀ (s u : State) (src : Source) (f p : List Byte) (a : Station), s.Takes src 65 f u p → 6 ≤ p.length →
    a = stationAt p 0 → isGroup a = true ∨ a = u.managementAddress →
    Sys2Proof.Machine.exec (.guestEnd src) s = .next (u.answer src f 65 .range [])) ∧
  (∀ (s u : State) (src : Source) (f p : List Byte), s.Takes src 65 f u p → p.length < 6 →
    Sys2Proof.Machine.exec (.guestEnd src) s = .next (u.answer src f 65 .range [])) ∧
  (∀ (s u : State) (src : Source) (f p : List Byte) (a : Station), s.Takes src 65 f u p → 6 ≤ p.length →
    a = stationAt p 0 → isGroup a = false → a ≠ u.managementAddress → (∀ e ∈ u.guests.table, e.2.station ≠ a) →
    Sys2Proof.Machine.exec (.guestEnd src) s = .next (u.answer src f 65 .unknown [])) ∧
  (∀ (s u : State) (src : Source) (f p : List Byte) (a : Station) (k : Nat) (g : Guest), s.Takes src 65 f u p →
    6 ≤ p.length → a = stationAt p 0 → isGroup a = false → a ≠ u.managementAddress → u.findGuest a = some (k, g) →
    (g.state = .barred → Sys2Proof.Machine.exec (.guestEnd src) s = .next (u.answer src f 65 .state [])) ∧
    ((∃ h, g.state = .expired h) → Sys2Proof.Machine.exec (.guestEnd src) s = .next (u.answer src f 65 .done [])) ∧
    ((∃ n, g.state = .pending n) ∨ (∃ e, g.state = .admitted e) ∨ (∃ e, g.state = .throttled e) →
      Sys2Proof.Machine.exec (.guestEnd src) s = .next ((u.putGuest k { g with
        state := .expired (Moment.plus u.clock.now (1000 * u.settings.guest.hold)) }).answer src f 65 .done [])))

/-- A frame handed to a guest's policer passes where the bucket of its direction holds 1,000 times its length, which the bucket
then loses, and is dropped with its policer drop counted where it does not; a policing rate of 0 holds the bucket full. An
admitted frame debits an Admitted session's Remaining of its direction, and one that exhausts it makes the session Throttled
with GUEST-QUOTA counted; a refused one returns its tokens. A Pending entry whose time is over and an Expired entry whose hold
is reached are removed; a live entry whose Expiry is reached becomes Expired with its hold running; the Closing Sweep expires
the entry it reaches, unless it is Expired, Barred or stamped with the Closing Number, and moves on, ending past slot 1,023. A
hold carries whole days and stands at day 65,535, ms 86,399,999 where the sum lies beyond (R169, R174, R175, R176, R177). That
the sweep stands while RESET is held is the model's choice (log 14), and so is an Expiry reached at once where a session is
admitted at the last millisecond before the wrap (log 32). -/
def Obligations.GuestsArePolicedAndRunOut : Prop :=
  (∀ (s : State) (p target : PortId) (f : List Byte) (a : Station) (d : Direction) (k n rate : Nat) (g : Guest),
    s.findGuest a = some (k, g) → s.guests.table.get? k = some g → g.state ≠ .barred → n = 1000 * f.length →
    rate = (match g.state with
      | .pending _ | .expired _ => s.settings.guest.floor
      | .admitted _ | .throttled _ | .barred => g.rate) →
    (rate ≠ 0 → g.bucket d < n → s.forwardPoliced p f target a d = (match d with
      | .up => { s with guests := { s.guests with upDrops := min (s.guests.upDrops + 1) 65535 } }
      | .down => { s with guests := { s.guests with downDrops := min (s.guests.downDrops + 1) 65535 } })) ∧
    (∀ v r, rate = 0 ∨ n ≤ g.bucket d →
      v = s.putGuest k (g.setBucket d (if rate = 0 then 3072000 else g.bucket d - n)) →
      r = v.offer (outputClass (portZone p) [portZone target]) .forwarded f [target] →
      (r.2.taken = true → s.forwardPoliced p f target a d = r.1.debit a d f.length) ∧
      (r.2.taken = false → s.forwardPoliced p f target a d = r.1.returnTokens a d f.length))) ∧
  (∀ (s : State) (a : Station) (d : Direction) (k n : Nat) (g : Guest), s.findGuest a = some (k, g) →
    s.returnTokens a d n = s.putGuest k (g.setBucket d (min (g.bucket d + 1000 * n) 3072000))) ∧
  (∀ (s : State) (a : Station) (d : Direction) (k n left : Nat) (g : Guest) (e : Option Moment),
    s.findGuest a = some (k, g) → g.state = .admitted e → g.remaining d = some left →
    (n < left → s.debit a d n = s.putGuest k (g.setRemaining d (some (left - n)))) ∧
    (left ≤ n → Spoken (State.raise (s.putGuest k { g.setRemaining d (some 0) with
        state := .throttled e
        rate := if g.rate ≠ 0 ∧ g.rate < s.settings.guest.floor then g.rate else s.settings.guest.floor })
      .guestQuota 1) (s.debit a d n))) ∧
  (∀ (s : State) (a : Station) (d : Direction) (k n : Nat) (g : Guest), s.findGuest a = some (k, g) →
    (∀ e, g.state ≠ .admitted e) ∨ g.remaining d = none → s.debit a d n = s) ∧
  (∀ (s : State) (k : Nat) (g : Guest), s.guests.table.get? k = some g → g.state = .pending 0 →
    Sys2Proof.Machine.exec (.pendingTimeout k) s = .next (s.dropGuest k)) ∧
  (∀ (s : State) (k : Nat) (g : Guest) (h : Moment), s.guests.table.get? k = some g → g.state = .expired h →
    Moment.le h s.clock.now = true → Sys2Proof.Machine.exec (.holdUntilReached k) s = .next (s.dropGuest k)) ∧
  (∀ (s : State) (k : Nat) (g : Guest) (e : Moment), s.guests.table.get? k = some g →
    g.state = .admitted (some e) ∨ g.state = .throttled (some e) → Moment.le e s.clock.now = true →
    Sys2Proof.Machine.exec (.guestExpiry k) s = .next (s.putGuest k { g with
      state := .expired (Moment.plus s.clock.now (1000 * s.settings.guest.hold)) })) ∧
  (∀ s : State, s.resetHeld = true ∨ s.guests.sweep = none → Sys2Proof.Machine.exec .closingSweepStep s = .next s) ∧
  (∀ (s : State) (k : Nat) (g : Guest), s.resetHeld = false → s.guests.sweep = some k → s.guests.table.get? k = some g →
    (∃ n, g.state = .pending n) ∨ (∃ e, g.state = .admitted e) ∨ (∃ e, g.state = .throttled e) →
    g.stamp ≠ s.guests.closingNumber →
    Sys2Proof.Machine.exec .closingSweepStep s = .next { s with guests := { s.guests with
      table := Table.put k { g with
        state := .expired (Moment.plus s.clock.now (1000 * s.settings.guest.hold)) } s.guests.table
      sweep := if k + 1 < 1024 then some (k + 1) else none } }) ∧
  (∀ (s : State) (k : Nat), s.resetHeld = false → s.guests.sweep = some k →
    (∀ g, s.guests.table.get? k = some g →
      (∃ h, g.state = .expired h) ∨ g.state = .barred ∨ g.stamp = s.guests.closingNumber) →
    Sys2Proof.Machine.exec .closingSweepStep s = .next { s with guests := { s.guests with
      sweep := if k + 1 < 1024 then some (k + 1) else none } }) ∧
  -- A sum of Store Time and whole milliseconds carries whole days and stands at the last pair before the wrap (R176).
  (∀ (m : Moment) (n : Nat),
    (m.day + (m.ms + n) / 86400000 ≤ 65535 →
      Moment.plus m n = ⟨m.day + (m.ms + n) / 86400000, (m.ms + n) % 86400000⟩) ∧
    (65535 < m.day + (m.ms + n) / 86400000 → Moment.plus m n = ⟨65535, 86399999⟩))

/-! ### Management -/

/-- The five reads answer what they name and change nothing: an area of the part's state or of its counts, an item by code or by
index, a label by ID or by index, a guest's entry by station or by slot; an area that is not there, and a key outside its range,
is refused with Range, and what is not held with Unknown. The areas hold, field by field, what the tables of R192 and R193 list,
and the reads of a record the fields of its rule. Which number names an area, that a selector stands first, and the places and
forms of the fields are the model's choice (R14, R50, R51, R56, R64, R92, R97, R103, R138, R163, R165, R173, R192-R194; log 9),
and so is the Next Send shown past the last sequence (log 48); that Read Status, not Read Counters, shows Last Recovery Loss and
the Overflow Mark is the reading of log 70, that an enabled notify enable reads 1 log 9. -/
def Obligations.ReadsChangeNothing : Prop :=
  (∀ (s u : State) (src : Source) (f p area : List Byte), s.Takes src 1 f u p → 1 ≤ p.length →
    u.statusArea (fieldAt p 0 1) = some area →
    Sys2Proof.Machine.exec (.readStatus src) s = .next (u.answer src f 1 .done area)) ∧
  (∀ (s u : State) (src : Source) (f p : List Byte), s.Takes src 1 f u p → 1 ≤ p.length → 8 ≤ fieldAt p 0 1 →
    Sys2Proof.Machine.exec (.readStatus src) s = .next (u.answer src f 1 .range [])) ∧
  (∀ (s : State) (n : Nat), (s.statusArea n).isSome = decide (n < 8) ∧ (s.counterArea n).isSome = decide (n < 3)) ∧
  (∀ (s u : State) (src : Source) (f p area : List Byte), s.Takes src 2 f u p → 1 ≤ p.length →
    u.counterArea (fieldAt p 0 1) = some area →
    Sys2Proof.Machine.exec (.readCounters src) s = .next (u.answer src f 2 .done area)) ∧
  (∀ (s u : State) (src : Source) (f p : List Byte), s.Takes src 2 f u p → 1 ≤ p.length → 3 ≤ fieldAt p 0 1 →
    Sys2Proof.Machine.exec (.readCounters src) s = .next (u.answer src f 2 .range [])) ∧
  (∀ (s u : State) (src : Source) (f p : List Byte) (code : Nat), s.Takes src 33 f u p → 7 ≤ p.length →
    fieldAt p 0 1 = 0 → code = fieldAt p 1 6 →
    (codeOk code = false → Sys2Proof.Machine.exec (.itemRead src) s = .next (u.answer src f 33 .range [])) ∧
    (∀ k it, codeOk code = true → u.findItem code = some (k, it) →
      Sys2Proof.Machine.exec (.itemRead src) s = .next (u.answer src f 33 .done (itemReadBytes k it))) ∧
    (codeOk code = true → u.findItem code = none →
      Sys2Proof.Machine.exec (.itemRead src) s = .next (u.answer src f 33 .unknown []))) ∧
  (∀ (s u : State) (src : Source) (f p : List Byte) (k : Nat), s.Takes src 33 f u p → 3 ≤ p.length →
    fieldAt p 0 1 = 1 → k = fieldAt p 1 2 →
    (32767 < k → Sys2Proof.Machine.exec (.itemRead src) s = .next (u.answer src f 33 .range [])) ∧
    (∀ it, k ≤ 32767 → u.items.get? k = some it →
      Sys2Proof.Machine.exec (.itemRead src) s = .next (u.answer src f 33 .done (itemReadBytes k it))) ∧
    (k ≤ 32767 → u.items.get? k = none →
      Sys2Proof.Machine.exec (.itemRead src) s = .next (u.answer src f 33 .unknown []))) ∧
  (∀ (s u : State) (src : Source) (f p : List Byte) (id : Nat), s.Takes src 52 f u p → 5 ≤ p.length →
    fieldAt p 0 1 = 0 → id = fieldAt p 1 4 →
    (id = 0 → Sys2Proof.Machine.exec (.labelRead src) s = .next (u.answer src f 52 .range [])) ∧
    (∀ i lab, id ≠ 0 → u.findLabel id = some (i, lab) →
      Sys2Proof.Machine.exec (.labelRead src) s = .next (u.answer src f 52 .done (u.labelReadBytes i lab))) ∧
    (id ≠ 0 → u.findLabel id = none →
      Sys2Proof.Machine.exec (.labelRead src) s = .next (u.answer src f 52 .unknown []))) ∧
  (∀ (s u : State) (src : Source) (f p : List Byte) (i : Nat), s.Takes src 52 f u p → 3 ≤ p.length →
    fieldAt p 0 1 = 1 → i = fieldAt p 1 2 →
    (8191 < i → Sys2Proof.Machine.exec (.labelRead src) s = .next (u.answer src f 52 .range [])) ∧
    (∀ lab, i ≤ 8191 → u.labels.get? i = some lab →
      Sys2Proof.Machine.exec (.labelRead src) s = .next (u.answer src f 52 .done (u.labelReadBytes i lab))) ∧
    (i ≤ 8191 → u.labels.get? i = none →
      Sys2Proof.Machine.exec (.labelRead src) s = .next (u.answer src f 52 .unknown []))) ∧
  (∀ (s u : State) (src : Source) (f p : List Byte) (a : Station), s.Takes src 68 f u p → 7 ≤ p.length →
    fieldAt p 0 1 = 0 → a = stationAt p 1 →
    (isGroup a = true ∨ a = u.managementAddress →
      Sys2Proof.Machine.exec (.guestRead src) s = .next (u.answer src f 68 .range [])) ∧
    (∀ k g, isGroup a = false → a ≠ u.managementAddress → u.findGuest a = some (k, g) →
      Sys2Proof.Machine.exec (.guestRead src) s =
        .next (u.answer src f 68 .done (guestReadBytes u.settings.guest.floor k g))) ∧
    (isGroup a = false → a ≠ u.managementAddress → u.findGuest a = none →
      Sys2Proof.Machine.exec (.guestRead src) s = .next (u.answer src f 68 .unknown []))) ∧
  (∀ (s u : State) (src : Source) (f p : List Byte) (k : Nat), s.Takes src 68 f u p → 3 ≤ p.length →
    fieldAt p 0 1 = 1 → k = fieldAt p 1 2 →
    (1023 < k → Sys2Proof.Machine.exec (.guestRead src) s = .next (u.answer src f 68 .range [])) ∧
    (∀ g, k ≤ 1023 → u.guests.table.get? k = some g →
      Sys2Proof.Machine.exec (.guestRead src) s =
        .next (u.answer src f 68 .done (guestReadBytes u.settings.guest.floor k g))) ∧
    (k ≤ 1023 → u.guests.table.get? k = none →
      Sys2Proof.Machine.exec (.guestRead src) s = .next (u.answer src f 68 .unknown []))) ∧
  (∀ (s : State) (m : Management), m = s.management → s.statusArea 0 = some (
    beMoment s.clock.now ++ beBool s.clock.valid ++ be 1 (if s.mode = .trading then 0 else 1) ++
    [s.schedule.storeOpen, s.schedule.storeClose, s.schedule.nightStart, s.schedule.nightEnd].flatMap
      (fun d => beOption 4 d.time ++ beOption 2 d.firedDay) ++ beMomentOption s.schedule.cutover ++ beBool s.schedule.inhibit ++
    be 1 (if m.supervision.present then 0 else 1) ++ beOption 4 m.supervision.timer ++ beStationOption m.supervision.station ++
    be 1 (m.causes.powerOn.toNat + 2 * m.causes.pin.toNat + 4 * m.causes.full.toNat + 8 * m.causes.soft.toNat) ++
    be 1 ([ImageState.loading, .good, .bad, .saving].idxOf m.image) ++ beBool s.settings.management.writeBar ++
    be 1 m.strap.toNat ++ beStationOption s.settings.management.override ++ beStation s.managementAddress ++
    beBool s.statusA ++ beBool s.statusB ++ beBool m.restart.isSome)) ∧
  (∀ s : State, s.statusArea 1 = some (be 1 s.tills.length ++ s.tills.flatMap (fun kv =>
    be 2 kv.1 ++ be 1 kv.2.port.isSome.toNat ++ beOption 1 (kv.2.port.map Fin.val) ++ beOption 4 kv.2.lastTransaction ++
    beOption 4 kv.2.lastSequence))) ∧
  (∀ s : State, s.statusArea 2 = some (
    be 2 (s.items.filter (fun kv => kv.2.active.isSome)).length ++
    be 2 (s.items.filter (fun kv => kv.2.active.isNone)).length ++
    beOption 2 (if s.items.length < 32768 then some s.items.lowestFree else none) ++
    be 1 s.load.owner.isSome.toNat ++ beOption 1 (s.load.owner.map (fun o => if o = .controller then 0 else 1)) ++
    beOption 4 (s.load.owner.map (fun _ => s.load.timer)) ++ be 2 s.load.parts ++ be 4 s.load.applied ++ be 4 s.load.refused)) ∧
  (∀ s : State, s.TablesCanonical → s.items.get? s.items.lowestFree = none ∧
    ∀ k, k < s.items.lowestFree → (s.items.get? k).isSome = true) ∧
  (∀ (s : State) (j : Journal), j = s.journal → s.statusArea 3 = some (
    be 2 j.head ++ be 2 j.slots.length ++ beOption 4 j.nextSequence ++
    beOption 4 (if j.slots = [] then none else some (j.nextSequence.getD 4294967296 - j.slots.length)) ++
    beOption 4 (if j.slots = [] then none else some (j.nextSequence.getD 4294967296 - 1)) ++ beBool j.scan.isSome ++
    be 2 s.settings.highMark ++ be 2 j.lastLoss ++ beOption 4 j.overflowMark)) ∧
  (∀ (s : State) (x : LabelSettings), x = s.settings.labels → s.statusArea 4 = some (
    [s.link .b0, s.link .b1].flatMap (fun r => be 1 ([LinkState.off, .silent, .ready, .faulted].idxOf r.state) ++
      be 2 r.checkErrors ++ be 1 r.missed ++ be 2 r.queue.length) ++
    be 2 (s.link .b0).scanPosition ++ be 2 (s.link .b1).scanPosition ++ beBool x.external ++ be 4 x.period ++ be 2 x.max ++
    be 4 x.slotBudget ++ be 2 x.faultThreshold ++ be 4 s.pacer.count ++ be 2 s.pacer.number ++
    (List.range 6).flatMap (fun c => be 2 (s.labels.filter (fun kv => labelStateCode kv.2.state = c)).length))) ∧
  ([LabelState.unassigned, .current, .queued, .sent 0 0, .stale, .lost].map labelStateCode = [0, 1, 2, 3, 4, 5] ∧
    ∀ p c, labelStateCode (.sent p c) = 3) ∧
  (∀ s : State, s.statusArea 5 = some (
    (match s.batch with
      | none => be 1 0
      | some b => be 1 (1 + [BatchState.receiving, .armed, .cutting, .withdrawing].idxOf b.state) ++ (be 4 b.number ++
        be 2 b.declared ++ be 2 b.received ++ be 2 b.rejected ++ be 2 b.nextPart ++ beMomentOption b.cutoverTime ++
        be 2 b.position)) ++
    (match s.lastVerdict with
      | none => [0#8] ++ be 7 0
      | some v => [1#8] ++ be 4 v.number ++ be 1 (if v.good then 0 else 1) ++ be 2 v.rejected))) ∧
  (∀ (s : State) (x : Session), x = s.session → s.statusArea 6 = some (
    beOption 1 (x.type.map (fun y => if y = .night then 0 else 1)) ++
    be 1 ([SessionState.idle, .opening, .draining, .stopping, .receiving, .closing, .done, .failed, .cut].idxOf x.state) ++
    beOption 4 x.sessionId ++ beOption 1 x.window ++ beBool x.batchExpected ++ beOption 4 x.drainMark ++ beOption 4 x.nextSend ++
    be 2 x.nextBlock ++ be 1 x.outstanding.length ++ x.outstanding.flatMap (fun b => be 2 b.number ++ be 4 b.first ++
      be 1 b.records ++ be 1 (if b.condition = .offered then 0 else 1)) ++ be 1 x.retry ++ beOption 4 x.timer ++
    be 2 x.acknowledged ++
    (match x.verdict with
      | none => [0#8] ++ be 1 0 ++ be 4 0
      | some (kind, number) => [1#8] ++ be 1 ([VerdictKind.good, .bad, .noBatch].idxOf kind) ++ be 4 number) ++
    beOption 1 (x.lastOutcome.map (fun y => [LastOutcome.complete, .declined, .openUnanswered, .blocksUnacknowledged,
      .blockRejected, .batchSilent, .endUnanswered, .stopped, .nightEnd, .reset].idxOf y)))) ∧
  (∀ s : State, s.statusArea 7 = some (
    (List.range 5).flatMap (fun c => be 2 (s.guests.table.filter (fun kv => guestStateCode kv.2.state = c)).length) ++
    be 2 s.guests.closingNumber ++ beOption 2 s.guests.sweep)) ∧
  (∀ (left : Nat) (e : Option Moment) (h : Moment), [GuestState.pending left, .admitted e, .throttled e, .expired h, .barred].map
    guestStateCode = [0, 1, 2, 3, 4]) ∧
  (∀ s : State, s.counterArea 0 = some ((List.finRange 33).flatMap (fun i =>
    be 2 s.management.events.counters[i] ++ beBool s.settings.management.notify[i] ++ beBool s.management.events.owed[i]))) ∧
  (∀ s : State, s.counterArea 1 = some (([PortId.up, .ctl] ++ (List.finRange 16).map PortId.t ++ (List.finRange 4).map PortId.a ++
    [PortId.b .b0, .b .b1]).flatMap (fun p => be 2 (s.port p).lengthErrors ++ be 2 (s.port p).checkErrors ++
      be 2 (s.port p).loadingDiscards ++ be 2 (s.port p).localFilters))) ∧
  (∀ s : State, s.counterArea 2 = some (be 2 s.priceErrors ++ be 2 s.journal.messageErrors ++ be 2 (s.link .b0).checkErrors ++
    be 2 (s.link .b1).checkErrors ++ be 2 s.session.messageErrors ++ be 2 s.session.outOfPlace ++ be 2 s.guests.upDrops ++
    be 2 s.guests.downDrops ++ be 2 s.guests.reclaims ++ be 2 s.management.messageErrors)) ∧
  (∀ (k : Nat) (it : Item) (flags : ItemFlags → Nat),
    (∀ fl, flags fl = fl.blocked.toNat + 2 * fl.weighed.toNat + 4 * fl.ageCheck.toNat) → itemReadBytes k it =
    be 2 k ++ be 6 it.code ++ beOption 4 it.active ++ be 1 (flags it.flags) ++ beOption 4 (it.staged.map Prod.fst) ++
    beOption 1 (it.staged.map (fun st => flags st.2)) ++ be 1 it.labels.length ++ it.labels.flatMap (be 4) ++
    beOption 4 it.floor ++ beOption 4 it.ceiling ++ beOption 1 (it.ceiling.map (fun _ => if it.basis = .shelf then 0 else 1))) ∧
  (∀ (s : State) (i : Nat) (lab : Label) (price count number : Option Nat),
    (price, count, number) = (match lab.state with
      | .sent p c => (some p, some c, (s.pacer.window.find? (fun w => w.1 = c)).map Prod.snd)
      | _ => (none, none, none)) →
    s.labelReadBytes i lab = be 2 i ++ be 4 lab.id ++ be 1 (if lab.link = .b0 then 0 else 1) ++ beOption 2 lab.item ++
      beOption 4 lab.shown ++ (beOption 4 price ++ beOption 4 count) ++ be 1 lab.attempts ++ be 1 (labelStateCode lab.state) ++
      beOption 2 number ++ beOption 6 (lab.item.bind (fun k => (s.items.get? k).map Item.code))) ∧
  (∀ (floor slot : Nat) (g : Guest) (left : Option Nat) (expiry hold : Option Moment) (rate : Nat),
    (left, expiry, hold, rate) = (match g.state with
      | .pending n => (some n, none, none, floor)
      | .admitted e => (none, e, none, g.rate)
      | .throttled e => (none, e, none, g.rate)
      | .expired h => (none, none, some h, floor)
      | .barred => (none, none, none, g.rate)) →
    guestReadBytes floor slot g = be 2 slot ++ beStation g.station ++ beOption 1 (g.port.map Fin.val) ++
      be 1 (guestStateCode g.state) ++ beMoment g.created ++ be 2 g.stamp ++
      (beOption 4 left ++ beMomentOption expiry ++ beMomentOption hold) ++ be 4 g.upBudget ++ be 4 g.downBudget ++
      beOption 4 g.upRemaining ++ beOption 4 g.downRemaining ++ be 4 g.rate ++ be 4 g.upBucket ++ be 4 g.downBucket ++
      be 4 rate)

/-- Clear Events lowers a counter by the quoted count, to 0 at most, and clears the mark of one brought to 0; Clear Reset Causes
clears the four flags; a Heartbeat of the controller makes it Present and restarts the Supervision Timer; the Timer's end makes
it Absent and counts CONTROLLER-LOST; where the three conditions hold the owed notices are offered to CTL in kind number order,
each built with the Notice Number, which rises with it, and its kind's count, and every mark is cleared, a kind whose counter is
0 giving none. An event counted raises its counter; a rise from 0 of a kind whose notify is enabled offers its Event Notice
where the conditions hold and marks it owed where they do not. STATUS A and STATUS B are deasserted while the image is Loading;
else a line is asserted, in mode Any, where some condition of its set is true, and in mode All, where the set is not empty and
every condition of it is true (R187, R188, R189, R190, R191, R194, R200). The width of the heartbeat period in the results is
the model's choice (log 9), and that a notice's tag is the number before its rise (log 50); when owed notices are offered is log
13. -/
def Obligations.EventsSupervisionAndStatusLines : Prop :=
  (∀ (s u : State) (src : Source) (f p : List Byte) (k : EventKind) (q : Nat), s.Takes src 3 f u p → 3 ≤ p.length →
    kindOf? (fieldAt p 0 1) = some k → q = fieldAt p 1 2 → q < u.counter k →
    Sys2Proof.Machine.exec (.clearEvents src) s = .next (State.answer { u with management := { u.management with
      events := { u.management.events with
        counters := u.management.events.counters.set (kindIndex k) (u.counter k - q) } } }
      src f 3 .done (be 2 (u.counter k - q)))) ∧
  (∀ (s u : State) (src : Source) (f p : List Byte) (k : EventKind) (q : Nat), s.Takes src 3 f u p → 3 ≤ p.length →
    kindOf? (fieldAt p 0 1) = some k → q = fieldAt p 1 2 → u.counter k ≤ q →
    Sys2Proof.Machine.exec (.clearEvents src) s = .next (State.answer { u with management := { u.management with
      events := { u.management.events with
        counters := u.management.events.counters.set (kindIndex k) 0
        owed := u.management.events.owed.set (kindIndex k) false } } } src f 3 .done (be 2 0))) ∧
  (∀ (s u : State) (src : Source) (f p : List Byte), s.Takes src 3 f u p → 3 ≤ p.length →
    fieldAt p 0 1 = 0 ∨ 33 < fieldAt p 0 1 →
    Sys2Proof.Machine.exec (.clearEvents src) s = .next (u.answer src f 3 .range [])) ∧
  (∀ (s u : State) (src : Source) (f p : List Byte), s.Takes src 4 f u p →
    Sys2Proof.Machine.exec (.clearResetCauses src) s = .next (State.answer { u with management := { u.management with
      causes := ⟨false, false, false, false⟩ } } src f 4 .done [])) ∧
  (∀ (s u : State) (src : Source) (f p : List Byte) (n : Nat), s.Takes src 112 f u p →
    n = u.settings.management.heartbeat →
    ∃ t : State, Sys2Proof.Machine.exec (.heartbeat src) s = .next (t.answer src f 112 .done (be 4 n)) ∧
    Spoken { u with management := { u.management with supervision := { u.management.supervision with
      present := true, timer := if n = 0 then u.management.supervision.timer else some (1000 * n) } } } t) ∧
  (∀ (s u : State) (f p : List Byte), s.Takes .controller 112 f u p →
    u.management.supervision.station = some (frameSource f)) ∧
  (∀ s : State, s.management.supervision.timer = some 0 →
    ∃ t : State, Sys2Proof.Machine.exec .supervisionTimerExpiry s = .next t ∧
    Spoken (State.raise { s with management := { s.management with supervision := { s.management.supervision with
      present := false, timer := none } } } .controllerLost 1) t) ∧
  (∀ s : State, s.management.supervision.present = true → s.isUp .ctl = true → s.loading = false →
    ∃ t : State, Sys2Proof.Machine.exec .owedNotices s = .next t ∧ Spoken s t ∧ ∀ k, t.isOwed k = false) ∧
  (∀ (s v : State) (k : EventKind), s.noticesOpen = true → s.isOwed k = true →
    (∀ j, (kindIndex j).val < (kindIndex k).val → s.isOwed j = false) →
    v = { s with management := { s.management with events := { s.management.events with
      owed := s.management.events.owed.set (kindIndex k) false } } } →
    (s.counter k = 0 → Sys2Proof.Machine.exec .owedNotices s = Sys2Proof.Machine.exec .owedNotices v) ∧
    (∀ r frame, s.counter k ≠ 0 →
      frame = buildMessage 0x62 (s.management.supervision.station.getD broadcast) s.managementAddress
        s.management.events.noticeNumber (be 1 ((kindIndex k).val + 1) ++ [0#8] ++ be 2 (s.counter k)) →
      r = v.admitFrame .control .generated frame [.ctl] →
      Sys2Proof.Machine.exec .owedNotices s = Sys2Proof.Machine.exec .owedNotices (State.countAll { r.1 with
        management := { r.1.management with events := { r.1.management.events with
          noticeNumber := wrap16 s.management.events.noticeNumber } } } r.2.2))) ∧
  (∀ (s t : State) (k : EventKind) (frame : List Byte), Sys2Proof.Machine.exec .owedNotices s = .next t →
    s.noticesOpen = true → s.isOwed k = true → (∀ j, (kindIndex j).val < (kindIndex k).val → s.isOwed j = false) →
    s.counter k ≠ 0 → s.takesCopy .control .ctl = true →
    frame = buildMessage 0x62 (s.management.supervision.station.getD broadcast) s.managementAddress
      s.management.events.noticeNumber (be 1 ((kindIndex k).val + 1) ++ [0#8] ++ be 2 (s.counter k)) →
    s.roomFor .control (cellsOf frame.length) = true →
    s.queue .ctl .control ++ [s.pool.nextRef] <+: t.queue .ctl .control ∧
    t.pool.frames.get? s.pool.nextRef = some ⟨.control, 1, .generated, frame⟩) ∧
  (∀ s : State, s.noticesOpen = false ∨ (∀ k, s.isOwed k = false) → Sys2Proof.Machine.exec .owedNotices s = .next s) ∧
  -- Counting an event (R189), and the notice or the mark that a rise from 0 brings (R190).
  (∀ (s t : State) (k : EventKind), t = { s with management := { s.management with events := { s.management.events with
      counters := s.management.events.counters.set (kindIndex k) (min (s.counter k + 1) 65535) } } } →
    (s.counter k ≠ 0 ∨ s.settings.management.notify[kindIndex k] = false → s.count k = t) ∧
    (s.counter k = 0 → s.settings.management.notify[kindIndex k] = true → s.noticesOpen = false →
      s.count k = { t with management := { t.management with events := { t.management.events with
        owed := t.management.events.owed.set (kindIndex k) true } } }) ∧
    (∀ frame, s.counter k = 0 → s.settings.management.notify[kindIndex k] = true → s.noticesOpen = true →
      frame = buildMessage 0x62 (s.management.supervision.station.getD broadcast) s.managementAddress
        s.management.events.noticeNumber (be 1 ((kindIndex k).val + 1) ++ [0#8] ++ be 2 1) →
      s.takesCopy .control .ctl = true → s.roomFor .control (cellsOf frame.length) = true →
      (s.count k).queue .ctl .control = s.queue .ctl .control ++ [s.pool.nextRef] ∧
      (s.count k).pool.frames.get? s.pool.nextRef = some ⟨.control, 1, .generated, frame⟩ ∧
      (s.count k).management.events = { t.management.events with
        noticeNumber := wrap16 s.management.events.noticeNumber })) ∧
  (∀ s : State, s.loading = true → s.statusA = false ∧ s.statusB = false) ∧
  (∀ (s : State) (line : StatusLine) (level : Bool) (pairs : List (Bool × Bool)), s.loading = false →
    (line, level) = (s.settings.management.statusA, s.statusA) ∨ (line, level) = (s.settings.management.statusB, s.statusB) →
    pairs = [(line.set.uplinkUp, s.isUp .up), (line.set.controllerPresent, s.management.supervision.present),
      (line.set.nightActive, s.session.state.active),
      (line.set.journalHigh, decide (s.settings.highMark ≤ s.journal.slots.length)),
      (line.set.labelFault, decide ((s.link .b0).state = .faulted ∨ (s.link .b1).state = .faulted)),
      (line.set.batchArmed, decide (∃ b, s.batch = some b ∧ b.state = .armed))] →
    ((∀ x ∈ pairs, x.1 = false) → level = false) ∧
    (line.all = false → (level = true ↔ ∃ x ∈ pairs, x.1 = true ∧ x.2 = true)) ∧
    (line.all = true → (level = true ↔ (∃ x ∈ pairs, x.1 = true) ∧ ∀ x ∈ pairs, x.1 = true → x.2 = true)))

/-- A Queue Settings Write that passes every check puts all its values in force together, lowers each Age Remaining above a new
age time, fills the bucket of an unshaped uplink, settles the pacer, brings the links out of Off or takes them Off by the source
and P, makes a link at a written threshold Faulted with LINK-FAULT counted, restarts or stops the Supervision Timer, clears the
marks of the kinds it writes disabled and of no other, and offers the notices owed where it makes the controller Present;
nothing else changes. One with a value out of range or addresses that clash is refused with Range, one the pool cannot meet with
Busy, one whose override a station table holds with State, and changes nothing. Its entries apply in their order, each code
setting its own field within its range (R24, R34, R35, R41, R45, R46, R48, R83, R104, R105, R107, R109, R112, R113, R162, R181,
R186, R188, R190, R199, R200, 11.3). That an entry with a malformed presence, selector, condition set or mode is refused with
Range is the model's reading (log 22), and that value bytes beside an address or a status line are read its choice (log 59); so
are the entries' phase at a lowered age (log 34), the mark of a kind written twice (log 61), a Beacon Once dropped and Time Left
at a change of the source or P (log 21), P 0 with a Beacon Once pending (log 40), the missed-beacon count 0 of a link that
enters Faulted (log 67), a due superframe not started where the write stops the pacer (log 65), the order of the effects (logs
13, 44, 45, 57), a frame waiting for the shaper begun after the response (log 62), and the answer to what then stands first (log
3). -/
def Obligations.SettingsAreWrittenWhole : Prop :=
  (∀ (s u : State) (src : Source) (f p : List Byte) (es : List Entry) (x : Settings), s.Takes src 82 f u p →
    1 ≤ fieldAt p 0 1 → fieldAt p 0 1 ≤ 64 → 2 + 12 * fieldAt p 0 1 ≤ p.length →
    es = (piecesAt p 2 12 (fieldAt p 0 1)).map entryOf → applyEntries es u.settings = some x →
    u.addressesClash es x = false → u.pool.inUse.guest ≤ x.queue.guestCap →
    shortfallSum x.queue u.pool.inUse ≤ u.freeCells → u.overrideHeld es x = false →
    ∃ t : State, Sys2Proof.Machine.exec (.queueSettingsWrite src) s = .next (t.answer src f 82 .done []) ∧
    t.settings = x ∧ t.items = u.items ∧ t.journal = u.journal ∧ t.clock = u.clock ∧ t.guests = u.guests ∧
    t = { u with
      settings := x
      addresses := u.addresses.mapRecords (fun e =>
        if x.queue.ageTime < e.age then { e with age := x.queue.ageTime, phase := 0 } else e)
      pacer := if carries es [13, 14] then { u.pacer with
          oncePending := u.pacer.oncePending &&
            decide (x.labels.external = u.settings.labels.external ∧ x.labels.period = u.settings.labels.period)
          timeLeft := if x.labels.external = false ∧ x.labels.period ≠ 0 ∧
              (u.settings.labels.external = true ∨ u.settings.labels.period = 0) then 1 else u.pacer.timeLeft }
        else u.pacer
      ports := t.ports, pool := t.pool, labels := t.labels, links := t.links
      management := { u.management with
        events := t.management.events
        supervision := if carries es [32] then
            if x.management.heartbeat = 0 then { u.management.supervision with present := true, timer := none }
            else { u.management.supervision with timer := some (1000 * x.management.heartbeat) }
          else u.management.supervision } } ∧
    t.pool.bucket = (if x.queue.shaperRate = 0 then 3072000 else u.pool.bucket) ∧
    (∀ q, t.port q = { u.port q with queues := (t.port q).queues }) ∧
    (∀ l, t.link l = { (u.link l).yielded (u.writeLeavesReady es x l) with
      state := u.writtenLinkState es x l
      missed := if u.writeBringsUp es x l then 0 else (u.link l).missed }) ∧
    (∀ l i lab, u.writeLeavesReady es x l = true → i ∈ (u.link l).sentOrder →
      (∀ l', l' ≠ l → i ∉ (u.link l').sentOrder) → u.labels.get? i = some lab →
      t.labels.get? i = some { lab with state := if i ∈ (u.link l).overflow then .stale else .queued }) ∧
    (∀ i, (∀ l, u.writeLeavesReady es x l = true → i ∉ (u.link l).sentOrder) → t.labels.get? i = u.labels.get? i) ∧
    (∀ k, k ∉ labelKinds → t.counter k = u.counter k) ∧
    (∀ n, n = ([LinkId.b0, .b1].filter (fun l =>
        decide ((u.link l).state ≠ .faulted ∧ u.writtenLinkState es x l = .faulted))).length →
      t.counter .linkFault = if n = 0 then u.counter .linkFault else min (u.counter .linkFault + n) 65535) ∧
    (∀ n, n = (([LinkId.b0, .b1].filter (u.writeLeavesReady es x)).map (fun l => (u.link l).overflow.length)).sum →
      t.counter .labelStale = if n = 0 then u.counter .labelStale else min (u.counter .labelStale + n) 65535) ∧
    (∀ k e, e ∈ es → e.code = 34 → kindOf? e.sel1 = some k → x.management.notify[kindIndex k] = false → t.isOwed k = false) ∧
    (u.noticesOpen = true ∨ t.noticesOpen = false → ∀ k,
      (∀ e ∈ es, e.code = 34 → kindOf? e.sel1 = some k → x.management.notify[kindIndex k] = true) →
      (u.isOwed k = true → t.isOwed k = true) ∧ (k ∉ labelKinds → t.isOwed k = u.isOwed k)) ∧
    (u.noticesOpen = false → t.noticesOpen = true → ∀ k, t.isOwed k = false)) ∧
  (∀ (s u : State) (src : Source) (f p : List Byte), s.Takes src 82 f u p →
    fieldAt p 0 1 = 0 ∨ 64 < fieldAt p 0 1 ∨ p.length < 2 + 12 * fieldAt p 0 1 →
    Sys2Proof.Machine.exec (.queueSettingsWrite src) s = .next (u.answer src f 82 .range [])) ∧
  (∀ (s u : State) (src : Source) (f p : List Byte) (es : List Entry) (x : Settings), s.Takes src 82 f u p →
    1 ≤ fieldAt p 0 1 → fieldAt p 0 1 ≤ 64 → 2 + 12 * fieldAt p 0 1 ≤ p.length →
    es = (piecesAt p 2 12 (fieldAt p 0 1)).map entryOf → applyEntries es u.settings = some x →
    (u.addressesClash es x = true →
      Sys2Proof.Machine.exec (.queueSettingsWrite src) s = .next (u.answer src f 82 .range [])) ∧
    (u.addressesClash es x = false → u.pool.inUse.guest ≤ x.queue.guestCap →
      shortfallSum x.queue u.pool.inUse ≤ u.freeCells → u.overrideHeld es x = true →
      Sys2Proof.Machine.exec (.queueSettingsWrite src) s = .next (u.answer src f 82 .state []))) ∧
  (∀ (u : State) (es : List Entry) (x : Settings),
    (u.addressesClash es x = true ↔
      (carries es [27] = true ∧ ∃ h, x.management.headOffice = some h ∧
        (h = u.managementAddress ∨ h = State.managementAddress { u with settings := x })) ∨
      (carries es [33] = true ∧ ∃ a, x.management.override = some a ∧ x.management.headOffice = some a)) ∧
    (u.overrideHeld es x = true ↔ carries es [33] = true ∧ ∃ a, x.management.override = some a ∧
      ((∃ e, u.addresses.get? a.toNat = some e) ∨ ∃ g ∈ u.guests.table, g.2.station = a))) ∧
  (∀ (s u : State) (src : Source) (f p : List Byte) (es : List Entry), s.Takes src 82 f u p →
    1 ≤ fieldAt p 0 1 → fieldAt p 0 1 ≤ 64 → 2 + 12 * fieldAt p 0 1 ≤ p.length →
    es = (piecesAt p 2 12 (fieldAt p 0 1)).map entryOf → applyEntries es u.settings = none →
    Sys2Proof.Machine.exec (.queueSettingsWrite src) s = .next (u.answer src f 82 .range [])) ∧
  (∀ (s u : State) (src : Source) (f p : List Byte) (es : List Entry) (x : Settings), s.Takes src 82 f u p →
    1 ≤ fieldAt p 0 1 → fieldAt p 0 1 ≤ 64 → 2 + 12 * fieldAt p 0 1 ≤ p.length →
    es = (piecesAt p 2 12 (fieldAt p 0 1)).map entryOf → applyEntries es u.settings = some x →
    u.addressesClash es x = false →
    x.queue.guestCap < u.pool.inUse.guest ∨ u.freeCells < shortfallSum x.queue u.pool.inUse →
    Sys2Proof.Machine.exec (.queueSettingsWrite src) s = .next (u.answer src f 82 .busy [])) ∧
  -- The entries are read from the body and applied in their order; one out of range refuses all (R35, 11.3).
  (∀ e : List Byte, entryOf e = ⟨fieldAt e 0 1, fieldAt e 1 1, fieldAt e 2 1, fieldAt e 3 1, fieldAt e 4 8⟩) ∧
  (∀ x : Settings, applyEntries [] x = some x) ∧
  (∀ (e : Entry) (es : List Entry) (x : Settings), applyEntries (e :: es) x = (applyEntry e x).bind (applyEntries es)) ∧
  -- The settings that are numbers: a code, whether 0 stands apart from the range, the range, and the field.
  (∀ (x : Settings) (n : Nat), ∀ row ∈ ([
      (1, false, 0, 2048, { x with queue := { x.queue with tillReserve := n } }),
      (2, false, 0, 512, { x with queue := { x.queue with controlReserve := n } }),
      (3, false, 0, 8192, { x with queue := { x.queue with guestCap := n } }),
      (5, false, 1, 15, { x with queue := { x.queue with dayBulk := n } }),
      (6, false, 1, 15, { x with queue := { x.queue with dayGuest := n } }),
      (7, false, 1, 15, { x with queue := { x.queue with nightBulk := n } }),
      (8, false, 1, 15, { x with queue := { x.queue with nightGuest := n } }),
      (9, true, 8000, 125000000, { x with queue := { x.queue with shaperRate := n } }),
      (10, false, 10, 3600, { x with queue := { x.queue with ageTime := n } }),
      (11, false, 1, 255, { x with loadTimer := n }),
      (12, false, 1, 16384, { x with highMark := n }),
      (13, false, 0, 1, { x with labels := { x.labels with external := decide (n = 1) } }),
      (14, true, 16, 16383, { x with labels := { x.labels with period := n } }),
      (15, false, 0, 65535, { x with labels := { x.labels with max := n } }),
      (16, false, 1, 16, { x with labels := { x.labels with slotBudget := n } }),
      (17, false, 1, 65535, { x with labels := { x.labels with faultThreshold := n } }),
      (18, false, 1, 4, { x with windowLimit := n }),
      (19, false, 1, 60, { x with blockTimer := n })] ++ [
      (20, true, 60, 604800, { x with guest := { x.guest with duration := n } }),
      (21, false, 0, 4294967295, { x with guest := { x.guest with upBudget := n } }),
      (22, false, 0, 4294967295, { x with guest := { x.guest with downBudget := n } }),
      (23, true, 1000, 12500000, { x with guest := { x.guest with rate := n } }),
      (24, false, 1000, 12500000, { x with guest := { x.guest with floor := n } }),
      (25, false, 30, 3600, { x with guest := { x.guest with hold := n } }),
      (26, false, 0, 65535, { x with management := { x.management with branch := n } }),
      (28, false, 0, 1, { x with management := { x.management with uplinkManagement := decide (n = 1) } }),
      (29, false, 0, 1, { x with management := { x.management with takeOfficeTime := decide (n = 1) } }),
      (30, false, 0, 1, { x with management := { x.management with trickle := decide (n = 1) } }),
      (31, false, 0, 1, { x with management := { x.management with writeBar := decide (n = 1) } }),
      (32, false, 0, 255, { x with management := { x.management with heartbeat := n } })] :
        List (Nat × Bool × Nat × Nat × Settings)),
    ((row.2.1 = true ∧ n = 0) ∨ (row.2.2.1 ≤ n ∧ n ≤ row.2.2.2.1) →
      applyEntry ⟨row.1, 0, 0, 1, n⟩ x = some row.2.2.2.2) ∧
    (¬((row.2.1 = true ∧ n = 0) ∨ (row.2.2.1 ≤ n ∧ n ≤ row.2.2.2.1)) → applyEntry ⟨row.1, 0, 0, 1, n⟩ x = none) ∧
    (∀ a b c, (a, b, c) ≠ (0, 0, 1) → applyEntry ⟨row.1, a, b, c, n⟩ x = none)) ∧
  -- The two optional stations.
  (∀ (x : Settings) (n : Nat) (code : Nat) (put : Option Station → Settings),
    (code = 27 ∧ put = fun a => { x with management := { x.management with headOffice := a } }) ∨
      (code = 33 ∧ put = fun a => { x with management := { x.management with override := a } }) →
    applyEntry ⟨code, 0, 0, 0, n⟩ x = some (put none) ∧
    (n < 281474976710656 → isGroup (BitVec.ofNat 48 n) = false →
      applyEntry ⟨code, 0, 0, 1, n⟩ x = some (put (some (BitVec.ofNat 48 n)))) ∧
    (281474976710656 ≤ n ∨ isGroup (BitVec.ofNat 48 n) = true → applyEntry ⟨code, 0, 0, 1, n⟩ x = none) ∧
    (∀ a b c, a ≠ 0 ∨ b ≠ 0 ∨ 1 < c → applyEntry ⟨code, a, b, c, n⟩ x = none)) ∧
  -- Queue limits, of one port or all and of one class or all.
  (∀ (x : Settings) (a b n : Nat), a < 24 ∨ a = 255 → b < 5 ∨ b = 255 → 1 ≤ n → n ≤ 1024 →
    ∃ y : Settings, applyEntry ⟨4, a, b, 1, n⟩ x = some y ∧
    y = { x with queue := { x.queue with limits := y.queue.limits } } ∧
    ∀ (p : PortId) (c : OutClass), (y.queue.limits[portIndex p]).get c =
      if (a = 255 ∨ allPorts[a]? = some p) ∧ (b = 255 ∨ allClasses[b]? = some c) then n
      else (x.queue.limits[portIndex p]).get c) ∧
  (∀ (x : Settings) (a b c n : Nat), (24 ≤ a ∧ a ≠ 255) ∨ (5 ≤ b ∧ b ≠ 255) ∨ c ≠ 1 ∨ n = 0 ∨ 1024 < n →
    applyEntry ⟨4, a, b, c, n⟩ x = none) ∧
  -- Notify enables.
  (∀ (x : Settings) (a n : Nat) (k : EventKind), kindOf? a = some k → n ≤ 1 →
    applyEntry ⟨34, a, 0, 1, n⟩ x = some { x with management := { x.management with
      notify := x.management.notify.set (kindIndex k) (decide (n = 1)) } }) ∧
  (∀ (x : Settings) (a b c n : Nat), a = 0 ∨ 33 < a ∨ b ≠ 0 ∨ c ≠ 1 ∨ 1 < n → applyEntry ⟨34, a, b, c, n⟩ x = none) ∧
  -- Status lines: the condition set as flags in the order of R200, and the mode.
  (∀ (x : Settings) (m n : Nat) (line : StatusLine), m < 64 → n ≤ 1 →
    line = ⟨⟨m.testBit 0, m.testBit 1, m.testBit 2, m.testBit 3, m.testBit 4, m.testBit 5⟩, decide (n = 1)⟩ →
    applyEntry ⟨35, 0, 0, 1, 256 * m + n⟩ x = some { x with management := { x.management with statusA := line } } ∧
    applyEntry ⟨35, 1, 0, 1, 256 * m + n⟩ x = some { x with management := { x.management with statusB := line } }) ∧
  (∀ (x : Settings) (a b c n : Nat), 1 < a ∨ b ≠ 0 ∨ c ≠ 1 ∨ 64 ≤ n / 256 ∨ 1 < n % 256 →
    applyEntry ⟨35, a, b, c, n⟩ x = none) ∧
  (∀ (x : Settings) (code a b c n : Nat), code = 0 ∨ 35 < code → applyEntry ⟨code, a, b, c, n⟩ x = none)
end

