-- ==== Sys2Proof/Laws/State.lean ====
section
/-! SUPPORT. One lemma for each field and each update of State, so that no proof unfolds a record update. -/

namespace Sys2Proof.Machine

@[simp] theorem State.setSupplied_supplied (s : State) (v) : (s.setSupplied v).supplied = v := rfl
@[simp] theorem State.setSupplied_resetHeld (s : State) (v) : (s.setSupplied v).resetHeld = s.resetHeld := rfl
@[simp] theorem State.setSupplied_clock (s : State) (v) : (s.setSupplied v).clock = s.clock := rfl
@[simp] theorem State.setSupplied_mode (s : State) (v) : (s.setSupplied v).mode = s.mode := rfl
@[simp] theorem State.setSupplied_schedule (s : State) (v) : (s.setSupplied v).schedule = s.schedule := rfl
@[simp] theorem State.setSupplied_settings (s : State) (v) : (s.setSupplied v).settings = s.settings := rfl
@[simp] theorem State.setSupplied_ports (s : State) (v) : (s.setSupplied v).ports = s.ports := rfl
@[simp] theorem State.setSupplied_addresses (s : State) (v) : (s.setSupplied v).addresses = s.addresses := rfl
@[simp] theorem State.setSupplied_handed (s : State) (v) : (s.setSupplied v).handed = s.handed := rfl
@[simp] theorem State.setSupplied_pool (s : State) (v) : (s.setSupplied v).pool = s.pool := rfl
@[simp] theorem State.setSupplied_items (s : State) (v) : (s.setSupplied v).items = s.items := rfl
@[simp] theorem State.setSupplied_tills (s : State) (v) : (s.setSupplied v).tills = s.tills := rfl
@[simp] theorem State.setSupplied_priceErrors (s : State) (v) : (s.setSupplied v).priceErrors = s.priceErrors := rfl
@[simp] theorem State.setSupplied_load (s : State) (v) : (s.setSupplied v).load = s.load := rfl
@[simp] theorem State.setSupplied_journal (s : State) (v) : (s.setSupplied v).journal = s.journal := rfl
@[simp] theorem State.setSupplied_labels (s : State) (v) : (s.setSupplied v).labels = s.labels := rfl
@[simp] theorem State.setSupplied_links (s : State) (v) : (s.setSupplied v).links = s.links := rfl
@[simp] theorem State.setSupplied_pacer (s : State) (v) : (s.setSupplied v).pacer = s.pacer := rfl
@[simp] theorem State.setSupplied_batch (s : State) (v) : (s.setSupplied v).batch = s.batch := rfl
@[simp] theorem State.setSupplied_lastVerdict (s : State) (v) : (s.setSupplied v).lastVerdict = s.lastVerdict := rfl
@[simp] theorem State.setSupplied_session (s : State) (v) : (s.setSupplied v).session = s.session := rfl
@[simp] theorem State.setSupplied_guests (s : State) (v) : (s.setSupplied v).guests = s.guests := rfl
@[simp] theorem State.setSupplied_management (s : State) (v) : (s.setSupplied v).management = s.management := rfl
@[simp] theorem State.setSupplied_beaconPulses (s : State) (v) : (s.setSupplied v).beaconPulses = s.beaconPulses := rfl
@[simp] theorem State.setSupplied_freeUsed (s : State) (v) : (s.setSupplied v).freeUsed = s.freeUsed := rfl
@[simp] theorem State.setSupplied_pending (s : State) (v) : (s.setSupplied v).pending = s.pending := rfl

@[simp] theorem State.setResetHeld_supplied (s : State) (v) : (s.setResetHeld v).supplied = s.supplied := rfl
@[simp] theorem State.setResetHeld_resetHeld (s : State) (v) : (s.setResetHeld v).resetHeld = v := rfl
@[simp] theorem State.setResetHeld_clock (s : State) (v) : (s.setResetHeld v).clock = s.clock := rfl
@[simp] theorem State.setResetHeld_mode (s : State) (v) : (s.setResetHeld v).mode = s.mode := rfl
@[simp] theorem State.setResetHeld_schedule (s : State) (v) : (s.setResetHeld v).schedule = s.schedule := rfl
@[simp] theorem State.setResetHeld_settings (s : State) (v) : (s.setResetHeld v).settings = s.settings := rfl
@[simp] theorem State.setResetHeld_ports (s : State) (v) : (s.setResetHeld v).ports = s.ports := rfl
@[simp] theorem State.setResetHeld_addresses (s : State) (v) : (s.setResetHeld v).addresses = s.addresses := rfl
@[simp] theorem State.setResetHeld_handed (s : State) (v) : (s.setResetHeld v).handed = s.handed := rfl
@[simp] theorem State.setResetHeld_pool (s : State) (v) : (s.setResetHeld v).pool = s.pool := rfl
@[simp] theorem State.setResetHeld_items (s : State) (v) : (s.setResetHeld v).items = s.items := rfl
@[simp] theorem State.setResetHeld_tills (s : State) (v) : (s.setResetHeld v).tills = s.tills := rfl
@[simp] theorem State.setResetHeld_priceErrors (s : State) (v) : (s.setResetHeld v).priceErrors = s.priceErrors := rfl
@[simp] theorem State.setResetHeld_load (s : State) (v) : (s.setResetHeld v).load = s.load := rfl
@[simp] theorem State.setResetHeld_journal (s : State) (v) : (s.setResetHeld v).journal = s.journal := rfl
@[simp] theorem State.setResetHeld_labels (s : State) (v) : (s.setResetHeld v).labels = s.labels := rfl
@[simp] theorem State.setResetHeld_links (s : State) (v) : (s.setResetHeld v).links = s.links := rfl
@[simp] theorem State.setResetHeld_pacer (s : State) (v) : (s.setResetHeld v).pacer = s.pacer := rfl
@[simp] theorem State.setResetHeld_batch (s : State) (v) : (s.setResetHeld v).batch = s.batch := rfl
@[simp] theorem State.setResetHeld_lastVerdict (s : State) (v) : (s.setResetHeld v).lastVerdict = s.lastVerdict := rfl
@[simp] theorem State.setResetHeld_session (s : State) (v) : (s.setResetHeld v).session = s.session := rfl
@[simp] theorem State.setResetHeld_guests (s : State) (v) : (s.setResetHeld v).guests = s.guests := rfl
@[simp] theorem State.setResetHeld_management (s : State) (v) : (s.setResetHeld v).management = s.management := rfl
@[simp] theorem State.setResetHeld_beaconPulses (s : State) (v) : (s.setResetHeld v).beaconPulses = s.beaconPulses := rfl
@[simp] theorem State.setResetHeld_freeUsed (s : State) (v) : (s.setResetHeld v).freeUsed = s.freeUsed := rfl
@[simp] theorem State.setResetHeld_pending (s : State) (v) : (s.setResetHeld v).pending = s.pending := rfl

@[simp] theorem State.setClock_supplied (s : State) (v) : (s.setClock v).supplied = s.supplied := rfl
@[simp] theorem State.setClock_resetHeld (s : State) (v) : (s.setClock v).resetHeld = s.resetHeld := rfl
@[simp] theorem State.setClock_clock (s : State) (v) : (s.setClock v).clock = v := rfl
@[simp] theorem State.setClock_mode (s : State) (v) : (s.setClock v).mode = s.mode := rfl
@[simp] theorem State.setClock_schedule (s : State) (v) : (s.setClock v).schedule = s.schedule := rfl
@[simp] theorem State.setClock_settings (s : State) (v) : (s.setClock v).settings = s.settings := rfl
@[simp] theorem State.setClock_ports (s : State) (v) : (s.setClock v).ports = s.ports := rfl
@[simp] theorem State.setClock_addresses (s : State) (v) : (s.setClock v).addresses = s.addresses := rfl
@[simp] theorem State.setClock_handed (s : State) (v) : (s.setClock v).handed = s.handed := rfl
@[simp] theorem State.setClock_pool (s : State) (v) : (s.setClock v).pool = s.pool := rfl
@[simp] theorem State.setClock_items (s : State) (v) : (s.setClock v).items = s.items := rfl
@[simp] theorem State.setClock_tills (s : State) (v) : (s.setClock v).tills = s.tills := rfl
@[simp] theorem State.setClock_priceErrors (s : State) (v) : (s.setClock v).priceErrors = s.priceErrors := rfl
@[simp] theorem State.setClock_load (s : State) (v) : (s.setClock v).load = s.load := rfl
@[simp] theorem State.setClock_journal (s : State) (v) : (s.setClock v).journal = s.journal := rfl
@[simp] theorem State.setClock_labels (s : State) (v) : (s.setClock v).labels = s.labels := rfl
@[simp] theorem State.setClock_links (s : State) (v) : (s.setClock v).links = s.links := rfl
@[simp] theorem State.setClock_pacer (s : State) (v) : (s.setClock v).pacer = s.pacer := rfl
@[simp] theorem State.setClock_batch (s : State) (v) : (s.setClock v).batch = s.batch := rfl
@[simp] theorem State.setClock_lastVerdict (s : State) (v) : (s.setClock v).lastVerdict = s.lastVerdict := rfl
@[simp] theorem State.setClock_session (s : State) (v) : (s.setClock v).session = s.session := rfl
@[simp] theorem State.setClock_guests (s : State) (v) : (s.setClock v).guests = s.guests := rfl
@[simp] theorem State.setClock_management (s : State) (v) : (s.setClock v).management = s.management := rfl
@[simp] theorem State.setClock_beaconPulses (s : State) (v) : (s.setClock v).beaconPulses = s.beaconPulses := rfl
@[simp] theorem State.setClock_freeUsed (s : State) (v) : (s.setClock v).freeUsed = s.freeUsed := rfl
@[simp] theorem State.setClock_pending (s : State) (v) : (s.setClock v).pending = s.pending := rfl

@[simp] theorem State.setMode_supplied (s : State) (v) : (s.setMode v).supplied = s.supplied := rfl
@[simp] theorem State.setMode_resetHeld (s : State) (v) : (s.setMode v).resetHeld = s.resetHeld := rfl
@[simp] theorem State.setMode_clock (s : State) (v) : (s.setMode v).clock = s.clock := rfl
@[simp] theorem State.setMode_mode (s : State) (v) : (s.setMode v).mode = v := rfl
@[simp] theorem State.setMode_schedule (s : State) (v) : (s.setMode v).schedule = s.schedule := rfl
@[simp] theorem State.setMode_settings (s : State) (v) : (s.setMode v).settings = s.settings := rfl
@[simp] theorem State.setMode_ports (s : State) (v) : (s.setMode v).ports = s.ports := rfl
@[simp] theorem State.setMode_addresses (s : State) (v) : (s.setMode v).addresses = s.addresses := rfl
@[simp] theorem State.setMode_handed (s : State) (v) : (s.setMode v).handed = s.handed := rfl
@[simp] theorem State.setMode_pool (s : State) (v) : (s.setMode v).pool = s.pool := rfl
@[simp] theorem State.setMode_items (s : State) (v) : (s.setMode v).items = s.items := rfl
@[simp] theorem State.setMode_tills (s : State) (v) : (s.setMode v).tills = s.tills := rfl
@[simp] theorem State.setMode_priceErrors (s : State) (v) : (s.setMode v).priceErrors = s.priceErrors := rfl
@[simp] theorem State.setMode_load (s : State) (v) : (s.setMode v).load = s.load := rfl
@[simp] theorem State.setMode_journal (s : State) (v) : (s.setMode v).journal = s.journal := rfl
@[simp] theorem State.setMode_labels (s : State) (v) : (s.setMode v).labels = s.labels := rfl
@[simp] theorem State.setMode_links (s : State) (v) : (s.setMode v).links = s.links := rfl
@[simp] theorem State.setMode_pacer (s : State) (v) : (s.setMode v).pacer = s.pacer := rfl
@[simp] theorem State.setMode_batch (s : State) (v) : (s.setMode v).batch = s.batch := rfl
@[simp] theorem State.setMode_lastVerdict (s : State) (v) : (s.setMode v).lastVerdict = s.lastVerdict := rfl
@[simp] theorem State.setMode_session (s : State) (v) : (s.setMode v).session = s.session := rfl
@[simp] theorem State.setMode_guests (s : State) (v) : (s.setMode v).guests = s.guests := rfl
@[simp] theorem State.setMode_management (s : State) (v) : (s.setMode v).management = s.management := rfl
@[simp] theorem State.setMode_beaconPulses (s : State) (v) : (s.setMode v).beaconPulses = s.beaconPulses := rfl
@[simp] theorem State.setMode_freeUsed (s : State) (v) : (s.setMode v).freeUsed = s.freeUsed := rfl
@[simp] theorem State.setMode_pending (s : State) (v) : (s.setMode v).pending = s.pending := rfl

@[simp] theorem State.setSchedule_supplied (s : State) (v) : (s.setSchedule v).supplied = s.supplied := rfl
@[simp] theorem State.setSchedule_resetHeld (s : State) (v) : (s.setSchedule v).resetHeld = s.resetHeld := rfl
@[simp] theorem State.setSchedule_clock (s : State) (v) : (s.setSchedule v).clock = s.clock := rfl
@[simp] theorem State.setSchedule_mode (s : State) (v) : (s.setSchedule v).mode = s.mode := rfl
@[simp] theorem State.setSchedule_schedule (s : State) (v) : (s.setSchedule v).schedule = v := rfl
@[simp] theorem State.setSchedule_settings (s : State) (v) : (s.setSchedule v).settings = s.settings := rfl
@[simp] theorem State.setSchedule_ports (s : State) (v) : (s.setSchedule v).ports = s.ports := rfl
@[simp] theorem State.setSchedule_addresses (s : State) (v) : (s.setSchedule v).addresses = s.addresses := rfl
@[simp] theorem State.setSchedule_handed (s : State) (v) : (s.setSchedule v).handed = s.handed := rfl
@[simp] theorem State.setSchedule_pool (s : State) (v) : (s.setSchedule v).pool = s.pool := rfl
@[simp] theorem State.setSchedule_items (s : State) (v) : (s.setSchedule v).items = s.items := rfl
@[simp] theorem State.setSchedule_tills (s : State) (v) : (s.setSchedule v).tills = s.tills := rfl
@[simp] theorem State.setSchedule_priceErrors (s : State) (v) : (s.setSchedule v).priceErrors = s.priceErrors := rfl
@[simp] theorem State.setSchedule_load (s : State) (v) : (s.setSchedule v).load = s.load := rfl
@[simp] theorem State.setSchedule_journal (s : State) (v) : (s.setSchedule v).journal = s.journal := rfl
@[simp] theorem State.setSchedule_labels (s : State) (v) : (s.setSchedule v).labels = s.labels := rfl
@[simp] theorem State.setSchedule_links (s : State) (v) : (s.setSchedule v).links = s.links := rfl
@[simp] theorem State.setSchedule_pacer (s : State) (v) : (s.setSchedule v).pacer = s.pacer := rfl
@[simp] theorem State.setSchedule_batch (s : State) (v) : (s.setSchedule v).batch = s.batch := rfl
@[simp] theorem State.setSchedule_lastVerdict (s : State) (v) : (s.setSchedule v).lastVerdict = s.lastVerdict := rfl
@[simp] theorem State.setSchedule_session (s : State) (v) : (s.setSchedule v).session = s.session := rfl
@[simp] theorem State.setSchedule_guests (s : State) (v) : (s.setSchedule v).guests = s.guests := rfl
@[simp] theorem State.setSchedule_management (s : State) (v) : (s.setSchedule v).management = s.management := rfl
@[simp] theorem State.setSchedule_beaconPulses (s : State) (v) : (s.setSchedule v).beaconPulses = s.beaconPulses := rfl
@[simp] theorem State.setSchedule_freeUsed (s : State) (v) : (s.setSchedule v).freeUsed = s.freeUsed := rfl
@[simp] theorem State.setSchedule_pending (s : State) (v) : (s.setSchedule v).pending = s.pending := rfl

@[simp] theorem State.setSettings_supplied (s : State) (v) : (s.setSettings v).supplied = s.supplied := rfl
@[simp] theorem State.setSettings_resetHeld (s : State) (v) : (s.setSettings v).resetHeld = s.resetHeld := rfl
@[simp] theorem State.setSettings_clock (s : State) (v) : (s.setSettings v).clock = s.clock := rfl
@[simp] theorem State.setSettings_mode (s : State) (v) : (s.setSettings v).mode = s.mode := rfl
@[simp] theorem State.setSettings_schedule (s : State) (v) : (s.setSettings v).schedule = s.schedule := rfl
@[simp] theorem State.setSettings_settings (s : State) (v) : (s.setSettings v).settings = v := rfl
@[simp] theorem State.setSettings_ports (s : State) (v) : (s.setSettings v).ports = s.ports := rfl
@[simp] theorem State.setSettings_addresses (s : State) (v) : (s.setSettings v).addresses = s.addresses := rfl
@[simp] theorem State.setSettings_handed (s : State) (v) : (s.setSettings v).handed = s.handed := rfl
@[simp] theorem State.setSettings_pool (s : State) (v) : (s.setSettings v).pool = s.pool := rfl
@[simp] theorem State.setSettings_items (s : State) (v) : (s.setSettings v).items = s.items := rfl
@[simp] theorem State.setSettings_tills (s : State) (v) : (s.setSettings v).tills = s.tills := rfl
@[simp] theorem State.setSettings_priceErrors (s : State) (v) : (s.setSettings v).priceErrors = s.priceErrors := rfl
@[simp] theorem State.setSettings_load (s : State) (v) : (s.setSettings v).load = s.load := rfl
@[simp] theorem State.setSettings_journal (s : State) (v) : (s.setSettings v).journal = s.journal := rfl
@[simp] theorem State.setSettings_labels (s : State) (v) : (s.setSettings v).labels = s.labels := rfl
@[simp] theorem State.setSettings_links (s : State) (v) : (s.setSettings v).links = s.links := rfl
@[simp] theorem State.setSettings_pacer (s : State) (v) : (s.setSettings v).pacer = s.pacer := rfl
@[simp] theorem State.setSettings_batch (s : State) (v) : (s.setSettings v).batch = s.batch := rfl
@[simp] theorem State.setSettings_lastVerdict (s : State) (v) : (s.setSettings v).lastVerdict = s.lastVerdict := rfl
@[simp] theorem State.setSettings_session (s : State) (v) : (s.setSettings v).session = s.session := rfl
@[simp] theorem State.setSettings_guests (s : State) (v) : (s.setSettings v).guests = s.guests := rfl
@[simp] theorem State.setSettings_management (s : State) (v) : (s.setSettings v).management = s.management := rfl
@[simp] theorem State.setSettings_beaconPulses (s : State) (v) : (s.setSettings v).beaconPulses = s.beaconPulses := rfl
@[simp] theorem State.setSettings_freeUsed (s : State) (v) : (s.setSettings v).freeUsed = s.freeUsed := rfl
@[simp] theorem State.setSettings_pending (s : State) (v) : (s.setSettings v).pending = s.pending := rfl

@[simp] theorem State.setPorts_supplied (s : State) (v) : (s.setPorts v).supplied = s.supplied := rfl
@[simp] theorem State.setPorts_resetHeld (s : State) (v) : (s.setPorts v).resetHeld = s.resetHeld := rfl
@[simp] theorem State.setPorts_clock (s : State) (v) : (s.setPorts v).clock = s.clock := rfl
@[simp] theorem State.setPorts_mode (s : State) (v) : (s.setPorts v).mode = s.mode := rfl
@[simp] theorem State.setPorts_schedule (s : State) (v) : (s.setPorts v).schedule = s.schedule := rfl
@[simp] theorem State.setPorts_settings (s : State) (v) : (s.setPorts v).settings = s.settings := rfl
@[simp] theorem State.setPorts_ports (s : State) (v) : (s.setPorts v).ports = v := rfl
@[simp] theorem State.setPorts_addresses (s : State) (v) : (s.setPorts v).addresses = s.addresses := rfl
@[simp] theorem State.setPorts_handed (s : State) (v) : (s.setPorts v).handed = s.handed := rfl
@[simp] theorem State.setPorts_pool (s : State) (v) : (s.setPorts v).pool = s.pool := rfl
@[simp] theorem State.setPorts_items (s : State) (v) : (s.setPorts v).items = s.items := rfl
@[simp] theorem State.setPorts_tills (s : State) (v) : (s.setPorts v).tills = s.tills := rfl
@[simp] theorem State.setPorts_priceErrors (s : State) (v) : (s.setPorts v).priceErrors = s.priceErrors := rfl
@[simp] theorem State.setPorts_load (s : State) (v) : (s.setPorts v).load = s.load := rfl
@[simp] theorem State.setPorts_journal (s : State) (v) : (s.setPorts v).journal = s.journal := rfl
@[simp] theorem State.setPorts_labels (s : State) (v) : (s.setPorts v).labels = s.labels := rfl
@[simp] theorem State.setPorts_links (s : State) (v) : (s.setPorts v).links = s.links := rfl
@[simp] theorem State.setPorts_pacer (s : State) (v) : (s.setPorts v).pacer = s.pacer := rfl
@[simp] theorem State.setPorts_batch (s : State) (v) : (s.setPorts v).batch = s.batch := rfl
@[simp] theorem State.setPorts_lastVerdict (s : State) (v) : (s.setPorts v).lastVerdict = s.lastVerdict := rfl
@[simp] theorem State.setPorts_session (s : State) (v) : (s.setPorts v).session = s.session := rfl
@[simp] theorem State.setPorts_guests (s : State) (v) : (s.setPorts v).guests = s.guests := rfl
@[simp] theorem State.setPorts_management (s : State) (v) : (s.setPorts v).management = s.management := rfl
@[simp] theorem State.setPorts_beaconPulses (s : State) (v) : (s.setPorts v).beaconPulses = s.beaconPulses := rfl
@[simp] theorem State.setPorts_freeUsed (s : State) (v) : (s.setPorts v).freeUsed = s.freeUsed := rfl
@[simp] theorem State.setPorts_pending (s : State) (v) : (s.setPorts v).pending = s.pending := rfl

@[simp] theorem State.setAddresses_supplied (s : State) (v) : (s.setAddresses v).supplied = s.supplied := rfl
@[simp] theorem State.setAddresses_resetHeld (s : State) (v) : (s.setAddresses v).resetHeld = s.resetHeld := rfl
@[simp] theorem State.setAddresses_clock (s : State) (v) : (s.setAddresses v).clock = s.clock := rfl
@[simp] theorem State.setAddresses_mode (s : State) (v) : (s.setAddresses v).mode = s.mode := rfl
@[simp] theorem State.setAddresses_schedule (s : State) (v) : (s.setAddresses v).schedule = s.schedule := rfl
@[simp] theorem State.setAddresses_settings (s : State) (v) : (s.setAddresses v).settings = s.settings := rfl
@[simp] theorem State.setAddresses_ports (s : State) (v) : (s.setAddresses v).ports = s.ports := rfl
@[simp] theorem State.setAddresses_addresses (s : State) (v) : (s.setAddresses v).addresses = v := rfl
@[simp] theorem State.setAddresses_handed (s : State) (v) : (s.setAddresses v).handed = s.handed := rfl
@[simp] theorem State.setAddresses_pool (s : State) (v) : (s.setAddresses v).pool = s.pool := rfl
@[simp] theorem State.setAddresses_items (s : State) (v) : (s.setAddresses v).items = s.items := rfl
@[simp] theorem State.setAddresses_tills (s : State) (v) : (s.setAddresses v).tills = s.tills := rfl
@[simp] theorem State.setAddresses_priceErrors (s : State) (v) : (s.setAddresses v).priceErrors = s.priceErrors := rfl
@[simp] theorem State.setAddresses_load (s : State) (v) : (s.setAddresses v).load = s.load := rfl
@[simp] theorem State.setAddresses_journal (s : State) (v) : (s.setAddresses v).journal = s.journal := rfl
@[simp] theorem State.setAddresses_labels (s : State) (v) : (s.setAddresses v).labels = s.labels := rfl
@[simp] theorem State.setAddresses_links (s : State) (v) : (s.setAddresses v).links = s.links := rfl
@[simp] theorem State.setAddresses_pacer (s : State) (v) : (s.setAddresses v).pacer = s.pacer := rfl
@[simp] theorem State.setAddresses_batch (s : State) (v) : (s.setAddresses v).batch = s.batch := rfl
@[simp] theorem State.setAddresses_lastVerdict (s : State) (v) : (s.setAddresses v).lastVerdict = s.lastVerdict := rfl
@[simp] theorem State.setAddresses_session (s : State) (v) : (s.setAddresses v).session = s.session := rfl
@[simp] theorem State.setAddresses_guests (s : State) (v) : (s.setAddresses v).guests = s.guests := rfl
@[simp] theorem State.setAddresses_management (s : State) (v) : (s.setAddresses v).management = s.management := rfl
@[simp] theorem State.setAddresses_beaconPulses (s : State) (v) : (s.setAddresses v).beaconPulses = s.beaconPulses := rfl
@[simp] theorem State.setAddresses_freeUsed (s : State) (v) : (s.setAddresses v).freeUsed = s.freeUsed := rfl
@[simp] theorem State.setAddresses_pending (s : State) (v) : (s.setAddresses v).pending = s.pending := rfl

@[simp] theorem State.setHanded_supplied (s : State) (v) : (s.setHanded v).supplied = s.supplied := rfl
@[simp] theorem State.setHanded_resetHeld (s : State) (v) : (s.setHanded v).resetHeld = s.resetHeld := rfl
@[simp] theorem State.setHanded_clock (s : State) (v) : (s.setHanded v).clock = s.clock := rfl
@[simp] theorem State.setHanded_mode (s : State) (v) : (s.setHanded v).mode = s.mode := rfl
@[simp] theorem State.setHanded_schedule (s : State) (v) : (s.setHanded v).schedule = s.schedule := rfl
@[simp] theorem State.setHanded_settings (s : State) (v) : (s.setHanded v).settings = s.settings := rfl
@[simp] theorem State.setHanded_ports (s : State) (v) : (s.setHanded v).ports = s.ports := rfl
@[simp] theorem State.setHanded_addresses (s : State) (v) : (s.setHanded v).addresses = s.addresses := rfl
@[simp] theorem State.setHanded_handed (s : State) (v) : (s.setHanded v).handed = v := rfl
@[simp] theorem State.setHanded_pool (s : State) (v) : (s.setHanded v).pool = s.pool := rfl
@[simp] theorem State.setHanded_items (s : State) (v) : (s.setHanded v).items = s.items := rfl
@[simp] theorem State.setHanded_tills (s : State) (v) : (s.setHanded v).tills = s.tills := rfl
@[simp] theorem State.setHanded_priceErrors (s : State) (v) : (s.setHanded v).priceErrors = s.priceErrors := rfl
@[simp] theorem State.setHanded_load (s : State) (v) : (s.setHanded v).load = s.load := rfl
@[simp] theorem State.setHanded_journal (s : State) (v) : (s.setHanded v).journal = s.journal := rfl
@[simp] theorem State.setHanded_labels (s : State) (v) : (s.setHanded v).labels = s.labels := rfl
@[simp] theorem State.setHanded_links (s : State) (v) : (s.setHanded v).links = s.links := rfl
@[simp] theorem State.setHanded_pacer (s : State) (v) : (s.setHanded v).pacer = s.pacer := rfl
@[simp] theorem State.setHanded_batch (s : State) (v) : (s.setHanded v).batch = s.batch := rfl
@[simp] theorem State.setHanded_lastVerdict (s : State) (v) : (s.setHanded v).lastVerdict = s.lastVerdict := rfl
@[simp] theorem State.setHanded_session (s : State) (v) : (s.setHanded v).session = s.session := rfl
@[simp] theorem State.setHanded_guests (s : State) (v) : (s.setHanded v).guests = s.guests := rfl
@[simp] theorem State.setHanded_management (s : State) (v) : (s.setHanded v).management = s.management := rfl
@[simp] theorem State.setHanded_beaconPulses (s : State) (v) : (s.setHanded v).beaconPulses = s.beaconPulses := rfl
@[simp] theorem State.setHanded_freeUsed (s : State) (v) : (s.setHanded v).freeUsed = s.freeUsed := rfl
@[simp] theorem State.setHanded_pending (s : State) (v) : (s.setHanded v).pending = s.pending := rfl

@[simp] theorem State.setPool_supplied (s : State) (v) : (s.setPool v).supplied = s.supplied := rfl
@[simp] theorem State.setPool_resetHeld (s : State) (v) : (s.setPool v).resetHeld = s.resetHeld := rfl
@[simp] theorem State.setPool_clock (s : State) (v) : (s.setPool v).clock = s.clock := rfl
@[simp] theorem State.setPool_mode (s : State) (v) : (s.setPool v).mode = s.mode := rfl
@[simp] theorem State.setPool_schedule (s : State) (v) : (s.setPool v).schedule = s.schedule := rfl
@[simp] theorem State.setPool_settings (s : State) (v) : (s.setPool v).settings = s.settings := rfl
@[simp] theorem State.setPool_ports (s : State) (v) : (s.setPool v).ports = s.ports := rfl
@[simp] theorem State.setPool_addresses (s : State) (v) : (s.setPool v).addresses = s.addresses := rfl
@[simp] theorem State.setPool_handed (s : State) (v) : (s.setPool v).handed = s.handed := rfl
@[simp] theorem State.setPool_pool (s : State) (v) : (s.setPool v).pool = v := rfl
@[simp] theorem State.setPool_items (s : State) (v) : (s.setPool v).items = s.items := rfl
@[simp] theorem State.setPool_tills (s : State) (v) : (s.setPool v).tills = s.tills := rfl
@[simp] theorem State.setPool_priceErrors (s : State) (v) : (s.setPool v).priceErrors = s.priceErrors := rfl
@[simp] theorem State.setPool_load (s : State) (v) : (s.setPool v).load = s.load := rfl
@[simp] theorem State.setPool_journal (s : State) (v) : (s.setPool v).journal = s.journal := rfl
@[simp] theorem State.setPool_labels (s : State) (v) : (s.setPool v).labels = s.labels := rfl
@[simp] theorem State.setPool_links (s : State) (v) : (s.setPool v).links = s.links := rfl
@[simp] theorem State.setPool_pacer (s : State) (v) : (s.setPool v).pacer = s.pacer := rfl
@[simp] theorem State.setPool_batch (s : State) (v) : (s.setPool v).batch = s.batch := rfl
@[simp] theorem State.setPool_lastVerdict (s : State) (v) : (s.setPool v).lastVerdict = s.lastVerdict := rfl
@[simp] theorem State.setPool_session (s : State) (v) : (s.setPool v).session = s.session := rfl
@[simp] theorem State.setPool_guests (s : State) (v) : (s.setPool v).guests = s.guests := rfl
@[simp] theorem State.setPool_management (s : State) (v) : (s.setPool v).management = s.management := rfl
@[simp] theorem State.setPool_beaconPulses (s : State) (v) : (s.setPool v).beaconPulses = s.beaconPulses := rfl
@[simp] theorem State.setPool_freeUsed (s : State) (v) : (s.setPool v).freeUsed = s.freeUsed := rfl
@[simp] theorem State.setPool_pending (s : State) (v) : (s.setPool v).pending = s.pending := rfl

@[simp] theorem State.setItems_supplied (s : State) (v) : (s.setItems v).supplied = s.supplied := rfl
@[simp] theorem State.setItems_resetHeld (s : State) (v) : (s.setItems v).resetHeld = s.resetHeld := rfl
@[simp] theorem State.setItems_clock (s : State) (v) : (s.setItems v).clock = s.clock := rfl
@[simp] theorem State.setItems_mode (s : State) (v) : (s.setItems v).mode = s.mode := rfl
@[simp] theorem State.setItems_schedule (s : State) (v) : (s.setItems v).schedule = s.schedule := rfl
@[simp] theorem State.setItems_settings (s : State) (v) : (s.setItems v).settings = s.settings := rfl
@[simp] theorem State.setItems_ports (s : State) (v) : (s.setItems v).ports = s.ports := rfl
@[simp] theorem State.setItems_addresses (s : State) (v) : (s.setItems v).addresses = s.addresses := rfl
@[simp] theorem State.setItems_handed (s : State) (v) : (s.setItems v).handed = s.handed := rfl
@[simp] theorem State.setItems_pool (s : State) (v) : (s.setItems v).pool = s.pool := rfl
@[simp] theorem State.setItems_items (s : State) (v) : (s.setItems v).items = v := rfl
@[simp] theorem State.setItems_tills (s : State) (v) : (s.setItems v).tills = s.tills := rfl
@[simp] theorem State.setItems_priceErrors (s : State) (v) : (s.setItems v).priceErrors = s.priceErrors := rfl
@[simp] theorem State.setItems_load (s : State) (v) : (s.setItems v).load = s.load := rfl
@[simp] theorem State.setItems_journal (s : State) (v) : (s.setItems v).journal = s.journal := rfl
@[simp] theorem State.setItems_labels (s : State) (v) : (s.setItems v).labels = s.labels := rfl
@[simp] theorem State.setItems_links (s : State) (v) : (s.setItems v).links = s.links := rfl
@[simp] theorem State.setItems_pacer (s : State) (v) : (s.setItems v).pacer = s.pacer := rfl
@[simp] theorem State.setItems_batch (s : State) (v) : (s.setItems v).batch = s.batch := rfl
@[simp] theorem State.setItems_lastVerdict (s : State) (v) : (s.setItems v).lastVerdict = s.lastVerdict := rfl
@[simp] theorem State.setItems_session (s : State) (v) : (s.setItems v).session = s.session := rfl
@[simp] theorem State.setItems_guests (s : State) (v) : (s.setItems v).guests = s.guests := rfl
@[simp] theorem State.setItems_management (s : State) (v) : (s.setItems v).management = s.management := rfl
@[simp] theorem State.setItems_beaconPulses (s : State) (v) : (s.setItems v).beaconPulses = s.beaconPulses := rfl
@[simp] theorem State.setItems_freeUsed (s : State) (v) : (s.setItems v).freeUsed = s.freeUsed := rfl
@[simp] theorem State.setItems_pending (s : State) (v) : (s.setItems v).pending = s.pending := rfl

@[simp] theorem State.setTills_supplied (s : State) (v) : (s.setTills v).supplied = s.supplied := rfl
@[simp] theorem State.setTills_resetHeld (s : State) (v) : (s.setTills v).resetHeld = s.resetHeld := rfl
@[simp] theorem State.setTills_clock (s : State) (v) : (s.setTills v).clock = s.clock := rfl
@[simp] theorem State.setTills_mode (s : State) (v) : (s.setTills v).mode = s.mode := rfl
@[simp] theorem State.setTills_schedule (s : State) (v) : (s.setTills v).schedule = s.schedule := rfl
@[simp] theorem State.setTills_settings (s : State) (v) : (s.setTills v).settings = s.settings := rfl
@[simp] theorem State.setTills_ports (s : State) (v) : (s.setTills v).ports = s.ports := rfl
@[simp] theorem State.setTills_addresses (s : State) (v) : (s.setTills v).addresses = s.addresses := rfl
@[simp] theorem State.setTills_handed (s : State) (v) : (s.setTills v).handed = s.handed := rfl
@[simp] theorem State.setTills_pool (s : State) (v) : (s.setTills v).pool = s.pool := rfl
@[simp] theorem State.setTills_items (s : State) (v) : (s.setTills v).items = s.items := rfl
@[simp] theorem State.setTills_tills (s : State) (v) : (s.setTills v).tills = v := rfl
@[simp] theorem State.setTills_priceErrors (s : State) (v) : (s.setTills v).priceErrors = s.priceErrors := rfl
@[simp] theorem State.setTills_load (s : State) (v) : (s.setTills v).load = s.load := rfl
@[simp] theorem State.setTills_journal (s : State) (v) : (s.setTills v).journal = s.journal := rfl
@[simp] theorem State.setTills_labels (s : State) (v) : (s.setTills v).labels = s.labels := rfl
@[simp] theorem State.setTills_links (s : State) (v) : (s.setTills v).links = s.links := rfl
@[simp] theorem State.setTills_pacer (s : State) (v) : (s.setTills v).pacer = s.pacer := rfl
@[simp] theorem State.setTills_batch (s : State) (v) : (s.setTills v).batch = s.batch := rfl
@[simp] theorem State.setTills_lastVerdict (s : State) (v) : (s.setTills v).lastVerdict = s.lastVerdict := rfl
@[simp] theorem State.setTills_session (s : State) (v) : (s.setTills v).session = s.session := rfl
@[simp] theorem State.setTills_guests (s : State) (v) : (s.setTills v).guests = s.guests := rfl
@[simp] theorem State.setTills_management (s : State) (v) : (s.setTills v).management = s.management := rfl
@[simp] theorem State.setTills_beaconPulses (s : State) (v) : (s.setTills v).beaconPulses = s.beaconPulses := rfl
@[simp] theorem State.setTills_freeUsed (s : State) (v) : (s.setTills v).freeUsed = s.freeUsed := rfl
@[simp] theorem State.setTills_pending (s : State) (v) : (s.setTills v).pending = s.pending := rfl

@[simp] theorem State.setPriceErrors_supplied (s : State) (v) : (s.setPriceErrors v).supplied = s.supplied := rfl
@[simp] theorem State.setPriceErrors_resetHeld (s : State) (v) : (s.setPriceErrors v).resetHeld = s.resetHeld := rfl
@[simp] theorem State.setPriceErrors_clock (s : State) (v) : (s.setPriceErrors v).clock = s.clock := rfl
@[simp] theorem State.setPriceErrors_mode (s : State) (v) : (s.setPriceErrors v).mode = s.mode := rfl
@[simp] theorem State.setPriceErrors_schedule (s : State) (v) : (s.setPriceErrors v).schedule = s.schedule := rfl
@[simp] theorem State.setPriceErrors_settings (s : State) (v) : (s.setPriceErrors v).settings = s.settings := rfl
@[simp] theorem State.setPriceErrors_ports (s : State) (v) : (s.setPriceErrors v).ports = s.ports := rfl
@[simp] theorem State.setPriceErrors_addresses (s : State) (v) : (s.setPriceErrors v).addresses = s.addresses := rfl
@[simp] theorem State.setPriceErrors_handed (s : State) (v) : (s.setPriceErrors v).handed = s.handed := rfl
@[simp] theorem State.setPriceErrors_pool (s : State) (v) : (s.setPriceErrors v).pool = s.pool := rfl
@[simp] theorem State.setPriceErrors_items (s : State) (v) : (s.setPriceErrors v).items = s.items := rfl
@[simp] theorem State.setPriceErrors_tills (s : State) (v) : (s.setPriceErrors v).tills = s.tills := rfl
@[simp] theorem State.setPriceErrors_priceErrors (s : State) (v) : (s.setPriceErrors v).priceErrors = v := rfl
@[simp] theorem State.setPriceErrors_load (s : State) (v) : (s.setPriceErrors v).load = s.load := rfl
@[simp] theorem State.setPriceErrors_journal (s : State) (v) : (s.setPriceErrors v).journal = s.journal := rfl
@[simp] theorem State.setPriceErrors_labels (s : State) (v) : (s.setPriceErrors v).labels = s.labels := rfl
@[simp] theorem State.setPriceErrors_links (s : State) (v) : (s.setPriceErrors v).links = s.links := rfl
@[simp] theorem State.setPriceErrors_pacer (s : State) (v) : (s.setPriceErrors v).pacer = s.pacer := rfl
@[simp] theorem State.setPriceErrors_batch (s : State) (v) : (s.setPriceErrors v).batch = s.batch := rfl
@[simp] theorem State.setPriceErrors_lastVerdict (s : State) (v) : (s.setPriceErrors v).lastVerdict = s.lastVerdict := rfl
@[simp] theorem State.setPriceErrors_session (s : State) (v) : (s.setPriceErrors v).session = s.session := rfl
@[simp] theorem State.setPriceErrors_guests (s : State) (v) : (s.setPriceErrors v).guests = s.guests := rfl
@[simp] theorem State.setPriceErrors_management (s : State) (v) : (s.setPriceErrors v).management = s.management := rfl
@[simp] theorem State.setPriceErrors_beaconPulses (s : State) (v) : (s.setPriceErrors v).beaconPulses = s.beaconPulses := rfl
@[simp] theorem State.setPriceErrors_freeUsed (s : State) (v) : (s.setPriceErrors v).freeUsed = s.freeUsed := rfl
@[simp] theorem State.setPriceErrors_pending (s : State) (v) : (s.setPriceErrors v).pending = s.pending := rfl

@[simp] theorem State.setLoad_supplied (s : State) (v) : (s.setLoad v).supplied = s.supplied := rfl
@[simp] theorem State.setLoad_resetHeld (s : State) (v) : (s.setLoad v).resetHeld = s.resetHeld := rfl
@[simp] theorem State.setLoad_clock (s : State) (v) : (s.setLoad v).clock = s.clock := rfl
@[simp] theorem State.setLoad_mode (s : State) (v) : (s.setLoad v).mode = s.mode := rfl
@[simp] theorem State.setLoad_schedule (s : State) (v) : (s.setLoad v).schedule = s.schedule := rfl
@[simp] theorem State.setLoad_settings (s : State) (v) : (s.setLoad v).settings = s.settings := rfl
@[simp] theorem State.setLoad_ports (s : State) (v) : (s.setLoad v).ports = s.ports := rfl
@[simp] theorem State.setLoad_addresses (s : State) (v) : (s.setLoad v).addresses = s.addresses := rfl
@[simp] theorem State.setLoad_handed (s : State) (v) : (s.setLoad v).handed = s.handed := rfl
@[simp] theorem State.setLoad_pool (s : State) (v) : (s.setLoad v).pool = s.pool := rfl
@[simp] theorem State.setLoad_items (s : State) (v) : (s.setLoad v).items = s.items := rfl
@[simp] theorem State.setLoad_tills (s : State) (v) : (s.setLoad v).tills = s.tills := rfl
@[simp] theorem State.setLoad_priceErrors (s : State) (v) : (s.setLoad v).priceErrors = s.priceErrors := rfl
@[simp] theorem State.setLoad_load (s : State) (v) : (s.setLoad v).load = v := rfl
@[simp] theorem State.setLoad_journal (s : State) (v) : (s.setLoad v).journal = s.journal := rfl
@[simp] theorem State.setLoad_labels (s : State) (v) : (s.setLoad v).labels = s.labels := rfl
@[simp] theorem State.setLoad_links (s : State) (v) : (s.setLoad v).links = s.links := rfl
@[simp] theorem State.setLoad_pacer (s : State) (v) : (s.setLoad v).pacer = s.pacer := rfl
@[simp] theorem State.setLoad_batch (s : State) (v) : (s.setLoad v).batch = s.batch := rfl
@[simp] theorem State.setLoad_lastVerdict (s : State) (v) : (s.setLoad v).lastVerdict = s.lastVerdict := rfl
@[simp] theorem State.setLoad_session (s : State) (v) : (s.setLoad v).session = s.session := rfl
@[simp] theorem State.setLoad_guests (s : State) (v) : (s.setLoad v).guests = s.guests := rfl
@[simp] theorem State.setLoad_management (s : State) (v) : (s.setLoad v).management = s.management := rfl
@[simp] theorem State.setLoad_beaconPulses (s : State) (v) : (s.setLoad v).beaconPulses = s.beaconPulses := rfl
@[simp] theorem State.setLoad_freeUsed (s : State) (v) : (s.setLoad v).freeUsed = s.freeUsed := rfl
@[simp] theorem State.setLoad_pending (s : State) (v) : (s.setLoad v).pending = s.pending := rfl

@[simp] theorem State.setJournal_supplied (s : State) (v) : (s.setJournal v).supplied = s.supplied := rfl
@[simp] theorem State.setJournal_resetHeld (s : State) (v) : (s.setJournal v).resetHeld = s.resetHeld := rfl
@[simp] theorem State.setJournal_clock (s : State) (v) : (s.setJournal v).clock = s.clock := rfl
@[simp] theorem State.setJournal_mode (s : State) (v) : (s.setJournal v).mode = s.mode := rfl
@[simp] theorem State.setJournal_schedule (s : State) (v) : (s.setJournal v).schedule = s.schedule := rfl
@[simp] theorem State.setJournal_settings (s : State) (v) : (s.setJournal v).settings = s.settings := rfl
@[simp] theorem State.setJournal_ports (s : State) (v) : (s.setJournal v).ports = s.ports := rfl
@[simp] theorem State.setJournal_addresses (s : State) (v) : (s.setJournal v).addresses = s.addresses := rfl
@[simp] theorem State.setJournal_handed (s : State) (v) : (s.setJournal v).handed = s.handed := rfl
@[simp] theorem State.setJournal_pool (s : State) (v) : (s.setJournal v).pool = s.pool := rfl
@[simp] theorem State.setJournal_items (s : State) (v) : (s.setJournal v).items = s.items := rfl
@[simp] theorem State.setJournal_tills (s : State) (v) : (s.setJournal v).tills = s.tills := rfl
@[simp] theorem State.setJournal_priceErrors (s : State) (v) : (s.setJournal v).priceErrors = s.priceErrors := rfl
@[simp] theorem State.setJournal_load (s : State) (v) : (s.setJournal v).load = s.load := rfl
@[simp] theorem State.setJournal_journal (s : State) (v) : (s.setJournal v).journal = v := rfl
@[simp] theorem State.setJournal_labels (s : State) (v) : (s.setJournal v).labels = s.labels := rfl
@[simp] theorem State.setJournal_links (s : State) (v) : (s.setJournal v).links = s.links := rfl
@[simp] theorem State.setJournal_pacer (s : State) (v) : (s.setJournal v).pacer = s.pacer := rfl
@[simp] theorem State.setJournal_batch (s : State) (v) : (s.setJournal v).batch = s.batch := rfl
@[simp] theorem State.setJournal_lastVerdict (s : State) (v) : (s.setJournal v).lastVerdict = s.lastVerdict := rfl
@[simp] theorem State.setJournal_session (s : State) (v) : (s.setJournal v).session = s.session := rfl
@[simp] theorem State.setJournal_guests (s : State) (v) : (s.setJournal v).guests = s.guests := rfl
@[simp] theorem State.setJournal_management (s : State) (v) : (s.setJournal v).management = s.management := rfl
@[simp] theorem State.setJournal_beaconPulses (s : State) (v) : (s.setJournal v).beaconPulses = s.beaconPulses := rfl
@[simp] theorem State.setJournal_freeUsed (s : State) (v) : (s.setJournal v).freeUsed = s.freeUsed := rfl
@[simp] theorem State.setJournal_pending (s : State) (v) : (s.setJournal v).pending = s.pending := rfl

@[simp] theorem State.setLabels_supplied (s : State) (v) : (s.setLabels v).supplied = s.supplied := rfl
@[simp] theorem State.setLabels_resetHeld (s : State) (v) : (s.setLabels v).resetHeld = s.resetHeld := rfl
@[simp] theorem State.setLabels_clock (s : State) (v) : (s.setLabels v).clock = s.clock := rfl
@[simp] theorem State.setLabels_mode (s : State) (v) : (s.setLabels v).mode = s.mode := rfl
@[simp] theorem State.setLabels_schedule (s : State) (v) : (s.setLabels v).schedule = s.schedule := rfl
@[simp] theorem State.setLabels_settings (s : State) (v) : (s.setLabels v).settings = s.settings := rfl
@[simp] theorem State.setLabels_ports (s : State) (v) : (s.setLabels v).ports = s.ports := rfl
@[simp] theorem State.setLabels_addresses (s : State) (v) : (s.setLabels v).addresses = s.addresses := rfl
@[simp] theorem State.setLabels_handed (s : State) (v) : (s.setLabels v).handed = s.handed := rfl
@[simp] theorem State.setLabels_pool (s : State) (v) : (s.setLabels v).pool = s.pool := rfl
@[simp] theorem State.setLabels_items (s : State) (v) : (s.setLabels v).items = s.items := rfl
@[simp] theorem State.setLabels_tills (s : State) (v) : (s.setLabels v).tills = s.tills := rfl
@[simp] theorem State.setLabels_priceErrors (s : State) (v) : (s.setLabels v).priceErrors = s.priceErrors := rfl
@[simp] theorem State.setLabels_load (s : State) (v) : (s.setLabels v).load = s.load := rfl
@[simp] theorem State.setLabels_journal (s : State) (v) : (s.setLabels v).journal = s.journal := rfl
@[simp] theorem State.setLabels_labels (s : State) (v) : (s.setLabels v).labels = v := rfl
@[simp] theorem State.setLabels_links (s : State) (v) : (s.setLabels v).links = s.links := rfl
@[simp] theorem State.setLabels_pacer (s : State) (v) : (s.setLabels v).pacer = s.pacer := rfl
@[simp] theorem State.setLabels_batch (s : State) (v) : (s.setLabels v).batch = s.batch := rfl
@[simp] theorem State.setLabels_lastVerdict (s : State) (v) : (s.setLabels v).lastVerdict = s.lastVerdict := rfl
@[simp] theorem State.setLabels_session (s : State) (v) : (s.setLabels v).session = s.session := rfl
@[simp] theorem State.setLabels_guests (s : State) (v) : (s.setLabels v).guests = s.guests := rfl
@[simp] theorem State.setLabels_management (s : State) (v) : (s.setLabels v).management = s.management := rfl
@[simp] theorem State.setLabels_beaconPulses (s : State) (v) : (s.setLabels v).beaconPulses = s.beaconPulses := rfl
@[simp] theorem State.setLabels_freeUsed (s : State) (v) : (s.setLabels v).freeUsed = s.freeUsed := rfl
@[simp] theorem State.setLabels_pending (s : State) (v) : (s.setLabels v).pending = s.pending := rfl

@[simp] theorem State.setLinks_supplied (s : State) (v) : (s.setLinks v).supplied = s.supplied := rfl
@[simp] theorem State.setLinks_resetHeld (s : State) (v) : (s.setLinks v).resetHeld = s.resetHeld := rfl
@[simp] theorem State.setLinks_clock (s : State) (v) : (s.setLinks v).clock = s.clock := rfl
@[simp] theorem State.setLinks_mode (s : State) (v) : (s.setLinks v).mode = s.mode := rfl
@[simp] theorem State.setLinks_schedule (s : State) (v) : (s.setLinks v).schedule = s.schedule := rfl
@[simp] theorem State.setLinks_settings (s : State) (v) : (s.setLinks v).settings = s.settings := rfl
@[simp] theorem State.setLinks_ports (s : State) (v) : (s.setLinks v).ports = s.ports := rfl
@[simp] theorem State.setLinks_addresses (s : State) (v) : (s.setLinks v).addresses = s.addresses := rfl
@[simp] theorem State.setLinks_handed (s : State) (v) : (s.setLinks v).handed = s.handed := rfl
@[simp] theorem State.setLinks_pool (s : State) (v) : (s.setLinks v).pool = s.pool := rfl
@[simp] theorem State.setLinks_items (s : State) (v) : (s.setLinks v).items = s.items := rfl
@[simp] theorem State.setLinks_tills (s : State) (v) : (s.setLinks v).tills = s.tills := rfl
@[simp] theorem State.setLinks_priceErrors (s : State) (v) : (s.setLinks v).priceErrors = s.priceErrors := rfl
@[simp] theorem State.setLinks_load (s : State) (v) : (s.setLinks v).load = s.load := rfl
@[simp] theorem State.setLinks_journal (s : State) (v) : (s.setLinks v).journal = s.journal := rfl
@[simp] theorem State.setLinks_labels (s : State) (v) : (s.setLinks v).labels = s.labels := rfl
@[simp] theorem State.setLinks_links (s : State) (v) : (s.setLinks v).links = v := rfl
@[simp] theorem State.setLinks_pacer (s : State) (v) : (s.setLinks v).pacer = s.pacer := rfl
@[simp] theorem State.setLinks_batch (s : State) (v) : (s.setLinks v).batch = s.batch := rfl
@[simp] theorem State.setLinks_lastVerdict (s : State) (v) : (s.setLinks v).lastVerdict = s.lastVerdict := rfl
@[simp] theorem State.setLinks_session (s : State) (v) : (s.setLinks v).session = s.session := rfl
@[simp] theorem State.setLinks_guests (s : State) (v) : (s.setLinks v).guests = s.guests := rfl
@[simp] theorem State.setLinks_management (s : State) (v) : (s.setLinks v).management = s.management := rfl
@[simp] theorem State.setLinks_beaconPulses (s : State) (v) : (s.setLinks v).beaconPulses = s.beaconPulses := rfl
@[simp] theorem State.setLinks_freeUsed (s : State) (v) : (s.setLinks v).freeUsed = s.freeUsed := rfl
@[simp] theorem State.setLinks_pending (s : State) (v) : (s.setLinks v).pending = s.pending := rfl

@[simp] theorem State.setPacer_supplied (s : State) (v) : (s.setPacer v).supplied = s.supplied := rfl
@[simp] theorem State.setPacer_resetHeld (s : State) (v) : (s.setPacer v).resetHeld = s.resetHeld := rfl
@[simp] theorem State.setPacer_clock (s : State) (v) : (s.setPacer v).clock = s.clock := rfl
@[simp] theorem State.setPacer_mode (s : State) (v) : (s.setPacer v).mode = s.mode := rfl
@[simp] theorem State.setPacer_schedule (s : State) (v) : (s.setPacer v).schedule = s.schedule := rfl
@[simp] theorem State.setPacer_settings (s : State) (v) : (s.setPacer v).settings = s.settings := rfl
@[simp] theorem State.setPacer_ports (s : State) (v) : (s.setPacer v).ports = s.ports := rfl
@[simp] theorem State.setPacer_addresses (s : State) (v) : (s.setPacer v).addresses = s.addresses := rfl
@[simp] theorem State.setPacer_handed (s : State) (v) : (s.setPacer v).handed = s.handed := rfl
@[simp] theorem State.setPacer_pool (s : State) (v) : (s.setPacer v).pool = s.pool := rfl
@[simp] theorem State.setPacer_items (s : State) (v) : (s.setPacer v).items = s.items := rfl
@[simp] theorem State.setPacer_tills (s : State) (v) : (s.setPacer v).tills = s.tills := rfl
@[simp] theorem State.setPacer_priceErrors (s : State) (v) : (s.setPacer v).priceErrors = s.priceErrors := rfl
@[simp] theorem State.setPacer_load (s : State) (v) : (s.setPacer v).load = s.load := rfl
@[simp] theorem State.setPacer_journal (s : State) (v) : (s.setPacer v).journal = s.journal := rfl
@[simp] theorem State.setPacer_labels (s : State) (v) : (s.setPacer v).labels = s.labels := rfl
@[simp] theorem State.setPacer_links (s : State) (v) : (s.setPacer v).links = s.links := rfl
@[simp] theorem State.setPacer_pacer (s : State) (v) : (s.setPacer v).pacer = v := rfl
@[simp] theorem State.setPacer_batch (s : State) (v) : (s.setPacer v).batch = s.batch := rfl
@[simp] theorem State.setPacer_lastVerdict (s : State) (v) : (s.setPacer v).lastVerdict = s.lastVerdict := rfl
@[simp] theorem State.setPacer_session (s : State) (v) : (s.setPacer v).session = s.session := rfl
@[simp] theorem State.setPacer_guests (s : State) (v) : (s.setPacer v).guests = s.guests := rfl
@[simp] theorem State.setPacer_management (s : State) (v) : (s.setPacer v).management = s.management := rfl
@[simp] theorem State.setPacer_beaconPulses (s : State) (v) : (s.setPacer v).beaconPulses = s.beaconPulses := rfl
@[simp] theorem State.setPacer_freeUsed (s : State) (v) : (s.setPacer v).freeUsed = s.freeUsed := rfl
@[simp] theorem State.setPacer_pending (s : State) (v) : (s.setPacer v).pending = s.pending := rfl

@[simp] theorem State.setBatch_supplied (s : State) (v) : (s.setBatch v).supplied = s.supplied := rfl
@[simp] theorem State.setBatch_resetHeld (s : State) (v) : (s.setBatch v).resetHeld = s.resetHeld := rfl
@[simp] theorem State.setBatch_clock (s : State) (v) : (s.setBatch v).clock = s.clock := rfl
@[simp] theorem State.setBatch_mode (s : State) (v) : (s.setBatch v).mode = s.mode := rfl
@[simp] theorem State.setBatch_schedule (s : State) (v) : (s.setBatch v).schedule = s.schedule := rfl
@[simp] theorem State.setBatch_settings (s : State) (v) : (s.setBatch v).settings = s.settings := rfl
@[simp] theorem State.setBatch_ports (s : State) (v) : (s.setBatch v).ports = s.ports := rfl
@[simp] theorem State.setBatch_addresses (s : State) (v) : (s.setBatch v).addresses = s.addresses := rfl
@[simp] theorem State.setBatch_handed (s : State) (v) : (s.setBatch v).handed = s.handed := rfl
@[simp] theorem State.setBatch_pool (s : State) (v) : (s.setBatch v).pool = s.pool := rfl
@[simp] theorem State.setBatch_items (s : State) (v) : (s.setBatch v).items = s.items := rfl
@[simp] theorem State.setBatch_tills (s : State) (v) : (s.setBatch v).tills = s.tills := rfl
@[simp] theorem State.setBatch_priceErrors (s : State) (v) : (s.setBatch v).priceErrors = s.priceErrors := rfl
@[simp] theorem State.setBatch_load (s : State) (v) : (s.setBatch v).load = s.load := rfl
@[simp] theorem State.setBatch_journal (s : State) (v) : (s.setBatch v).journal = s.journal := rfl
@[simp] theorem State.setBatch_labels (s : State) (v) : (s.setBatch v).labels = s.labels := rfl
@[simp] theorem State.setBatch_links (s : State) (v) : (s.setBatch v).links = s.links := rfl
@[simp] theorem State.setBatch_pacer (s : State) (v) : (s.setBatch v).pacer = s.pacer := rfl
@[simp] theorem State.setBatch_batch (s : State) (v) : (s.setBatch v).batch = v := rfl
@[simp] theorem State.setBatch_lastVerdict (s : State) (v) : (s.setBatch v).lastVerdict = s.lastVerdict := rfl
@[simp] theorem State.setBatch_session (s : State) (v) : (s.setBatch v).session = s.session := rfl
@[simp] theorem State.setBatch_guests (s : State) (v) : (s.setBatch v).guests = s.guests := rfl
@[simp] theorem State.setBatch_management (s : State) (v) : (s.setBatch v).management = s.management := rfl
@[simp] theorem State.setBatch_beaconPulses (s : State) (v) : (s.setBatch v).beaconPulses = s.beaconPulses := rfl
@[simp] theorem State.setBatch_freeUsed (s : State) (v) : (s.setBatch v).freeUsed = s.freeUsed := rfl
@[simp] theorem State.setBatch_pending (s : State) (v) : (s.setBatch v).pending = s.pending := rfl

@[simp] theorem State.setLastVerdict_supplied (s : State) (v) : (s.setLastVerdict v).supplied = s.supplied := rfl
@[simp] theorem State.setLastVerdict_resetHeld (s : State) (v) : (s.setLastVerdict v).resetHeld = s.resetHeld := rfl
@[simp] theorem State.setLastVerdict_clock (s : State) (v) : (s.setLastVerdict v).clock = s.clock := rfl
@[simp] theorem State.setLastVerdict_mode (s : State) (v) : (s.setLastVerdict v).mode = s.mode := rfl
@[simp] theorem State.setLastVerdict_schedule (s : State) (v) : (s.setLastVerdict v).schedule = s.schedule := rfl
@[simp] theorem State.setLastVerdict_settings (s : State) (v) : (s.setLastVerdict v).settings = s.settings := rfl
@[simp] theorem State.setLastVerdict_ports (s : State) (v) : (s.setLastVerdict v).ports = s.ports := rfl
@[simp] theorem State.setLastVerdict_addresses (s : State) (v) : (s.setLastVerdict v).addresses = s.addresses := rfl
@[simp] theorem State.setLastVerdict_handed (s : State) (v) : (s.setLastVerdict v).handed = s.handed := rfl
@[simp] theorem State.setLastVerdict_pool (s : State) (v) : (s.setLastVerdict v).pool = s.pool := rfl
@[simp] theorem State.setLastVerdict_items (s : State) (v) : (s.setLastVerdict v).items = s.items := rfl
@[simp] theorem State.setLastVerdict_tills (s : State) (v) : (s.setLastVerdict v).tills = s.tills := rfl
@[simp] theorem State.setLastVerdict_priceErrors (s : State) (v) : (s.setLastVerdict v).priceErrors = s.priceErrors := rfl
@[simp] theorem State.setLastVerdict_load (s : State) (v) : (s.setLastVerdict v).load = s.load := rfl
@[simp] theorem State.setLastVerdict_journal (s : State) (v) : (s.setLastVerdict v).journal = s.journal := rfl
@[simp] theorem State.setLastVerdict_labels (s : State) (v) : (s.setLastVerdict v).labels = s.labels := rfl
@[simp] theorem State.setLastVerdict_links (s : State) (v) : (s.setLastVerdict v).links = s.links := rfl
@[simp] theorem State.setLastVerdict_pacer (s : State) (v) : (s.setLastVerdict v).pacer = s.pacer := rfl
@[simp] theorem State.setLastVerdict_batch (s : State) (v) : (s.setLastVerdict v).batch = s.batch := rfl
@[simp] theorem State.setLastVerdict_lastVerdict (s : State) (v) : (s.setLastVerdict v).lastVerdict = v := rfl
@[simp] theorem State.setLastVerdict_session (s : State) (v) : (s.setLastVerdict v).session = s.session := rfl
@[simp] theorem State.setLastVerdict_guests (s : State) (v) : (s.setLastVerdict v).guests = s.guests := rfl
@[simp] theorem State.setLastVerdict_management (s : State) (v) : (s.setLastVerdict v).management = s.management := rfl
@[simp] theorem State.setLastVerdict_beaconPulses (s : State) (v) : (s.setLastVerdict v).beaconPulses = s.beaconPulses := rfl
@[simp] theorem State.setLastVerdict_freeUsed (s : State) (v) : (s.setLastVerdict v).freeUsed = s.freeUsed := rfl
@[simp] theorem State.setLastVerdict_pending (s : State) (v) : (s.setLastVerdict v).pending = s.pending := rfl

@[simp] theorem State.setSession_supplied (s : State) (v) : (s.setSession v).supplied = s.supplied := rfl
@[simp] theorem State.setSession_resetHeld (s : State) (v) : (s.setSession v).resetHeld = s.resetHeld := rfl
@[simp] theorem State.setSession_clock (s : State) (v) : (s.setSession v).clock = s.clock := rfl
@[simp] theorem State.setSession_mode (s : State) (v) : (s.setSession v).mode = s.mode := rfl
@[simp] theorem State.setSession_schedule (s : State) (v) : (s.setSession v).schedule = s.schedule := rfl
@[simp] theorem State.setSession_settings (s : State) (v) : (s.setSession v).settings = s.settings := rfl
@[simp] theorem State.setSession_ports (s : State) (v) : (s.setSession v).ports = s.ports := rfl
@[simp] theorem State.setSession_addresses (s : State) (v) : (s.setSession v).addresses = s.addresses := rfl
@[simp] theorem State.setSession_handed (s : State) (v) : (s.setSession v).handed = s.handed := rfl
@[simp] theorem State.setSession_pool (s : State) (v) : (s.setSession v).pool = s.pool := rfl
@[simp] theorem State.setSession_items (s : State) (v) : (s.setSession v).items = s.items := rfl
@[simp] theorem State.setSession_tills (s : State) (v) : (s.setSession v).tills = s.tills := rfl
@[simp] theorem State.setSession_priceErrors (s : State) (v) : (s.setSession v).priceErrors = s.priceErrors := rfl
@[simp] theorem State.setSession_load (s : State) (v) : (s.setSession v).load = s.load := rfl
@[simp] theorem State.setSession_journal (s : State) (v) : (s.setSession v).journal = s.journal := rfl
@[simp] theorem State.setSession_labels (s : State) (v) : (s.setSession v).labels = s.labels := rfl
@[simp] theorem State.setSession_links (s : State) (v) : (s.setSession v).links = s.links := rfl
@[simp] theorem State.setSession_pacer (s : State) (v) : (s.setSession v).pacer = s.pacer := rfl
@[simp] theorem State.setSession_batch (s : State) (v) : (s.setSession v).batch = s.batch := rfl
@[simp] theorem State.setSession_lastVerdict (s : State) (v) : (s.setSession v).lastVerdict = s.lastVerdict := rfl
@[simp] theorem State.setSession_session (s : State) (v) : (s.setSession v).session = v := rfl
@[simp] theorem State.setSession_guests (s : State) (v) : (s.setSession v).guests = s.guests := rfl
@[simp] theorem State.setSession_management (s : State) (v) : (s.setSession v).management = s.management := rfl
@[simp] theorem State.setSession_beaconPulses (s : State) (v) : (s.setSession v).beaconPulses = s.beaconPulses := rfl
@[simp] theorem State.setSession_freeUsed (s : State) (v) : (s.setSession v).freeUsed = s.freeUsed := rfl
@[simp] theorem State.setSession_pending (s : State) (v) : (s.setSession v).pending = s.pending := rfl

@[simp] theorem State.setGuests_supplied (s : State) (v) : (s.setGuests v).supplied = s.supplied := rfl
@[simp] theorem State.setGuests_resetHeld (s : State) (v) : (s.setGuests v).resetHeld = s.resetHeld := rfl
@[simp] theorem State.setGuests_clock (s : State) (v) : (s.setGuests v).clock = s.clock := rfl
@[simp] theorem State.setGuests_mode (s : State) (v) : (s.setGuests v).mode = s.mode := rfl
@[simp] theorem State.setGuests_schedule (s : State) (v) : (s.setGuests v).schedule = s.schedule := rfl
@[simp] theorem State.setGuests_settings (s : State) (v) : (s.setGuests v).settings = s.settings := rfl
@[simp] theorem State.setGuests_ports (s : State) (v) : (s.setGuests v).ports = s.ports := rfl
@[simp] theorem State.setGuests_addresses (s : State) (v) : (s.setGuests v).addresses = s.addresses := rfl
@[simp] theorem State.setGuests_handed (s : State) (v) : (s.setGuests v).handed = s.handed := rfl
@[simp] theorem State.setGuests_pool (s : State) (v) : (s.setGuests v).pool = s.pool := rfl
@[simp] theorem State.setGuests_items (s : State) (v) : (s.setGuests v).items = s.items := rfl
@[simp] theorem State.setGuests_tills (s : State) (v) : (s.setGuests v).tills = s.tills := rfl
@[simp] theorem State.setGuests_priceErrors (s : State) (v) : (s.setGuests v).priceErrors = s.priceErrors := rfl
@[simp] theorem State.setGuests_load (s : State) (v) : (s.setGuests v).load = s.load := rfl
@[simp] theorem State.setGuests_journal (s : State) (v) : (s.setGuests v).journal = s.journal := rfl
@[simp] theorem State.setGuests_labels (s : State) (v) : (s.setGuests v).labels = s.labels := rfl
@[simp] theorem State.setGuests_links (s : State) (v) : (s.setGuests v).links = s.links := rfl
@[simp] theorem State.setGuests_pacer (s : State) (v) : (s.setGuests v).pacer = s.pacer := rfl
@[simp] theorem State.setGuests_batch (s : State) (v) : (s.setGuests v).batch = s.batch := rfl
@[simp] theorem State.setGuests_lastVerdict (s : State) (v) : (s.setGuests v).lastVerdict = s.lastVerdict := rfl
@[simp] theorem State.setGuests_session (s : State) (v) : (s.setGuests v).session = s.session := rfl
@[simp] theorem State.setGuests_guests (s : State) (v) : (s.setGuests v).guests = v := rfl
@[simp] theorem State.setGuests_management (s : State) (v) : (s.setGuests v).management = s.management := rfl
@[simp] theorem State.setGuests_beaconPulses (s : State) (v) : (s.setGuests v).beaconPulses = s.beaconPulses := rfl
@[simp] theorem State.setGuests_freeUsed (s : State) (v) : (s.setGuests v).freeUsed = s.freeUsed := rfl
@[simp] theorem State.setGuests_pending (s : State) (v) : (s.setGuests v).pending = s.pending := rfl

@[simp] theorem State.setManagement_supplied (s : State) (v) : (s.setManagement v).supplied = s.supplied := rfl
@[simp] theorem State.setManagement_resetHeld (s : State) (v) : (s.setManagement v).resetHeld = s.resetHeld := rfl
@[simp] theorem State.setManagement_clock (s : State) (v) : (s.setManagement v).clock = s.clock := rfl
@[simp] theorem State.setManagement_mode (s : State) (v) : (s.setManagement v).mode = s.mode := rfl
@[simp] theorem State.setManagement_schedule (s : State) (v) : (s.setManagement v).schedule = s.schedule := rfl
@[simp] theorem State.setManagement_settings (s : State) (v) : (s.setManagement v).settings = s.settings := rfl
@[simp] theorem State.setManagement_ports (s : State) (v) : (s.setManagement v).ports = s.ports := rfl
@[simp] theorem State.setManagement_addresses (s : State) (v) : (s.setManagement v).addresses = s.addresses := rfl
@[simp] theorem State.setManagement_handed (s : State) (v) : (s.setManagement v).handed = s.handed := rfl
@[simp] theorem State.setManagement_pool (s : State) (v) : (s.setManagement v).pool = s.pool := rfl
@[simp] theorem State.setManagement_items (s : State) (v) : (s.setManagement v).items = s.items := rfl
@[simp] theorem State.setManagement_tills (s : State) (v) : (s.setManagement v).tills = s.tills := rfl
@[simp] theorem State.setManagement_priceErrors (s : State) (v) : (s.setManagement v).priceErrors = s.priceErrors := rfl
@[simp] theorem State.setManagement_load (s : State) (v) : (s.setManagement v).load = s.load := rfl
@[simp] theorem State.setManagement_journal (s : State) (v) : (s.setManagement v).journal = s.journal := rfl
@[simp] theorem State.setManagement_labels (s : State) (v) : (s.setManagement v).labels = s.labels := rfl
@[simp] theorem State.setManagement_links (s : State) (v) : (s.setManagement v).links = s.links := rfl
@[simp] theorem State.setManagement_pacer (s : State) (v) : (s.setManagement v).pacer = s.pacer := rfl
@[simp] theorem State.setManagement_batch (s : State) (v) : (s.setManagement v).batch = s.batch := rfl
@[simp] theorem State.setManagement_lastVerdict (s : State) (v) : (s.setManagement v).lastVerdict = s.lastVerdict := rfl
@[simp] theorem State.setManagement_session (s : State) (v) : (s.setManagement v).session = s.session := rfl
@[simp] theorem State.setManagement_guests (s : State) (v) : (s.setManagement v).guests = s.guests := rfl
@[simp] theorem State.setManagement_management (s : State) (v) : (s.setManagement v).management = v := rfl
@[simp] theorem State.setManagement_beaconPulses (s : State) (v) : (s.setManagement v).beaconPulses = s.beaconPulses := rfl
@[simp] theorem State.setManagement_freeUsed (s : State) (v) : (s.setManagement v).freeUsed = s.freeUsed := rfl
@[simp] theorem State.setManagement_pending (s : State) (v) : (s.setManagement v).pending = s.pending := rfl

@[simp] theorem State.setBeaconPulses_supplied (s : State) (v) : (s.setBeaconPulses v).supplied = s.supplied := rfl
@[simp] theorem State.setBeaconPulses_resetHeld (s : State) (v) : (s.setBeaconPulses v).resetHeld = s.resetHeld := rfl
@[simp] theorem State.setBeaconPulses_clock (s : State) (v) : (s.setBeaconPulses v).clock = s.clock := rfl
@[simp] theorem State.setBeaconPulses_mode (s : State) (v) : (s.setBeaconPulses v).mode = s.mode := rfl
@[simp] theorem State.setBeaconPulses_schedule (s : State) (v) : (s.setBeaconPulses v).schedule = s.schedule := rfl
@[simp] theorem State.setBeaconPulses_settings (s : State) (v) : (s.setBeaconPulses v).settings = s.settings := rfl
@[simp] theorem State.setBeaconPulses_ports (s : State) (v) : (s.setBeaconPulses v).ports = s.ports := rfl
@[simp] theorem State.setBeaconPulses_addresses (s : State) (v) : (s.setBeaconPulses v).addresses = s.addresses := rfl
@[simp] theorem State.setBeaconPulses_handed (s : State) (v) : (s.setBeaconPulses v).handed = s.handed := rfl
@[simp] theorem State.setBeaconPulses_pool (s : State) (v) : (s.setBeaconPulses v).pool = s.pool := rfl
@[simp] theorem State.setBeaconPulses_items (s : State) (v) : (s.setBeaconPulses v).items = s.items := rfl
@[simp] theorem State.setBeaconPulses_tills (s : State) (v) : (s.setBeaconPulses v).tills = s.tills := rfl
@[simp] theorem State.setBeaconPulses_priceErrors (s : State) (v) : (s.setBeaconPulses v).priceErrors = s.priceErrors := rfl
@[simp] theorem State.setBeaconPulses_load (s : State) (v) : (s.setBeaconPulses v).load = s.load := rfl
@[simp] theorem State.setBeaconPulses_journal (s : State) (v) : (s.setBeaconPulses v).journal = s.journal := rfl
@[simp] theorem State.setBeaconPulses_labels (s : State) (v) : (s.setBeaconPulses v).labels = s.labels := rfl
@[simp] theorem State.setBeaconPulses_links (s : State) (v) : (s.setBeaconPulses v).links = s.links := rfl
@[simp] theorem State.setBeaconPulses_pacer (s : State) (v) : (s.setBeaconPulses v).pacer = s.pacer := rfl
@[simp] theorem State.setBeaconPulses_batch (s : State) (v) : (s.setBeaconPulses v).batch = s.batch := rfl
@[simp] theorem State.setBeaconPulses_lastVerdict (s : State) (v) : (s.setBeaconPulses v).lastVerdict = s.lastVerdict := rfl
@[simp] theorem State.setBeaconPulses_session (s : State) (v) : (s.setBeaconPulses v).session = s.session := rfl
@[simp] theorem State.setBeaconPulses_guests (s : State) (v) : (s.setBeaconPulses v).guests = s.guests := rfl
@[simp] theorem State.setBeaconPulses_management (s : State) (v) : (s.setBeaconPulses v).management = s.management := rfl
@[simp] theorem State.setBeaconPulses_beaconPulses (s : State) (v) : (s.setBeaconPulses v).beaconPulses = v := rfl
@[simp] theorem State.setBeaconPulses_freeUsed (s : State) (v) : (s.setBeaconPulses v).freeUsed = s.freeUsed := rfl
@[simp] theorem State.setBeaconPulses_pending (s : State) (v) : (s.setBeaconPulses v).pending = s.pending := rfl

@[simp] theorem State.setFreeUsed_supplied (s : State) (v) : (s.setFreeUsed v).supplied = s.supplied := rfl
@[simp] theorem State.setFreeUsed_resetHeld (s : State) (v) : (s.setFreeUsed v).resetHeld = s.resetHeld := rfl
@[simp] theorem State.setFreeUsed_clock (s : State) (v) : (s.setFreeUsed v).clock = s.clock := rfl
@[simp] theorem State.setFreeUsed_mode (s : State) (v) : (s.setFreeUsed v).mode = s.mode := rfl
@[simp] theorem State.setFreeUsed_schedule (s : State) (v) : (s.setFreeUsed v).schedule = s.schedule := rfl
@[simp] theorem State.setFreeUsed_settings (s : State) (v) : (s.setFreeUsed v).settings = s.settings := rfl
@[simp] theorem State.setFreeUsed_ports (s : State) (v) : (s.setFreeUsed v).ports = s.ports := rfl
@[simp] theorem State.setFreeUsed_addresses (s : State) (v) : (s.setFreeUsed v).addresses = s.addresses := rfl
@[simp] theorem State.setFreeUsed_handed (s : State) (v) : (s.setFreeUsed v).handed = s.handed := rfl
@[simp] theorem State.setFreeUsed_pool (s : State) (v) : (s.setFreeUsed v).pool = s.pool := rfl
@[simp] theorem State.setFreeUsed_items (s : State) (v) : (s.setFreeUsed v).items = s.items := rfl
@[simp] theorem State.setFreeUsed_tills (s : State) (v) : (s.setFreeUsed v).tills = s.tills := rfl
@[simp] theorem State.setFreeUsed_priceErrors (s : State) (v) : (s.setFreeUsed v).priceErrors = s.priceErrors := rfl
@[simp] theorem State.setFreeUsed_load (s : State) (v) : (s.setFreeUsed v).load = s.load := rfl
@[simp] theorem State.setFreeUsed_journal (s : State) (v) : (s.setFreeUsed v).journal = s.journal := rfl
@[simp] theorem State.setFreeUsed_labels (s : State) (v) : (s.setFreeUsed v).labels = s.labels := rfl
@[simp] theorem State.setFreeUsed_links (s : State) (v) : (s.setFreeUsed v).links = s.links := rfl
@[simp] theorem State.setFreeUsed_pacer (s : State) (v) : (s.setFreeUsed v).pacer = s.pacer := rfl
@[simp] theorem State.setFreeUsed_batch (s : State) (v) : (s.setFreeUsed v).batch = s.batch := rfl
@[simp] theorem State.setFreeUsed_lastVerdict (s : State) (v) : (s.setFreeUsed v).lastVerdict = s.lastVerdict := rfl
@[simp] theorem State.setFreeUsed_session (s : State) (v) : (s.setFreeUsed v).session = s.session := rfl
@[simp] theorem State.setFreeUsed_guests (s : State) (v) : (s.setFreeUsed v).guests = s.guests := rfl
@[simp] theorem State.setFreeUsed_management (s : State) (v) : (s.setFreeUsed v).management = s.management := rfl
@[simp] theorem State.setFreeUsed_beaconPulses (s : State) (v) : (s.setFreeUsed v).beaconPulses = s.beaconPulses := rfl
@[simp] theorem State.setFreeUsed_freeUsed (s : State) (v) : (s.setFreeUsed v).freeUsed = v := rfl
@[simp] theorem State.setFreeUsed_pending (s : State) (v) : (s.setFreeUsed v).pending = s.pending := rfl

@[simp] theorem State.setPending_supplied (s : State) (v) : (s.setPending v).supplied = s.supplied := rfl
@[simp] theorem State.setPending_resetHeld (s : State) (v) : (s.setPending v).resetHeld = s.resetHeld := rfl
@[simp] theorem State.setPending_clock (s : State) (v) : (s.setPending v).clock = s.clock := rfl
@[simp] theorem State.setPending_mode (s : State) (v) : (s.setPending v).mode = s.mode := rfl
@[simp] theorem State.setPending_schedule (s : State) (v) : (s.setPending v).schedule = s.schedule := rfl
@[simp] theorem State.setPending_settings (s : State) (v) : (s.setPending v).settings = s.settings := rfl
@[simp] theorem State.setPending_ports (s : State) (v) : (s.setPending v).ports = s.ports := rfl
@[simp] theorem State.setPending_addresses (s : State) (v) : (s.setPending v).addresses = s.addresses := rfl
@[simp] theorem State.setPending_handed (s : State) (v) : (s.setPending v).handed = s.handed := rfl
@[simp] theorem State.setPending_pool (s : State) (v) : (s.setPending v).pool = s.pool := rfl
@[simp] theorem State.setPending_items (s : State) (v) : (s.setPending v).items = s.items := rfl
@[simp] theorem State.setPending_tills (s : State) (v) : (s.setPending v).tills = s.tills := rfl
@[simp] theorem State.setPending_priceErrors (s : State) (v) : (s.setPending v).priceErrors = s.priceErrors := rfl
@[simp] theorem State.setPending_load (s : State) (v) : (s.setPending v).load = s.load := rfl
@[simp] theorem State.setPending_journal (s : State) (v) : (s.setPending v).journal = s.journal := rfl
@[simp] theorem State.setPending_labels (s : State) (v) : (s.setPending v).labels = s.labels := rfl
@[simp] theorem State.setPending_links (s : State) (v) : (s.setPending v).links = s.links := rfl
@[simp] theorem State.setPending_pacer (s : State) (v) : (s.setPending v).pacer = s.pacer := rfl
@[simp] theorem State.setPending_batch (s : State) (v) : (s.setPending v).batch = s.batch := rfl
@[simp] theorem State.setPending_lastVerdict (s : State) (v) : (s.setPending v).lastVerdict = s.lastVerdict := rfl
@[simp] theorem State.setPending_session (s : State) (v) : (s.setPending v).session = s.session := rfl
@[simp] theorem State.setPending_guests (s : State) (v) : (s.setPending v).guests = s.guests := rfl
@[simp] theorem State.setPending_management (s : State) (v) : (s.setPending v).management = s.management := rfl
@[simp] theorem State.setPending_beaconPulses (s : State) (v) : (s.setPending v).beaconPulses = s.beaconPulses := rfl
@[simp] theorem State.setPending_freeUsed (s : State) (v) : (s.setPending v).freeUsed = s.freeUsed := rfl
@[simp] theorem State.setPending_pending (s : State) (v) : (s.setPending v).pending = v := rfl

end Sys2Proof.Machine
end

