-- ==== Sys2Proof/Laws/Table.lean ====
section
/-! SUPPORT. The laws of the keyed tables: what a look-up answers after each operation, and that each keeps the canonical
form. -/

namespace Sys2Proof.Laws

open Sys2Proof.Machine

variable {α : Type}

theorem get?_put_self (k : Nat) (v : α) (t : Table α) : (Table.put k v t).get? k = some v := by
  induction t with
  | nil => simp [Table.put, Table.get?]
  | cons x t ih =>
    obtain ⟨j, w⟩ := x
    unfold Table.put
    split
    · simp [Table.get?]
    · split
      · simp [Table.get?]
      · rename_i h1 h2
        have : ¬ j = k := fun h => h2 h.symm
        simp [Table.get?, this, ih]

theorem get?_put_ne {k j : Nat} (h : j ≠ k) (v : α) (t : Table α) : (Table.put k v t).get? j = t.get? j := by
  induction t with
  | nil =>
    have : ¬ k = j := fun e => h e.symm
    simp [Table.put, Table.get?, this]
  | cons x t ih =>
    obtain ⟨i, w⟩ := x
    have hk : ¬ k = j := fun e => h e.symm
    unfold Table.put
    split
    · simp [Table.get?, hk]
    · split
      · rename_i h1 h2
        subst h2
        simp [Table.get?, hk]
      · simp [Table.get?, ih]

theorem get?_put (k j : Nat) (v : α) (t : Table α) :
    (Table.put k v t).get? j = if j = k then some v else t.get? j := by
  split
  · rename_i h; subst h; exact get?_put_self j v t
  · rename_i h; exact get?_put_ne h v t

theorem get?_del_ne {k j : Nat} (h : j ≠ k) (t : Table α) : (Table.del k t).get? j = t.get? j := by
  induction t with
  | nil => simp [Table.del, Table.get?]
  | cons x t ih =>
    obtain ⟨i, w⟩ := x
    unfold Table.del
    split
    · rename_i h1
      subst h1
      have : ¬ i = j := fun e => h e.symm
      simp [Table.get?, this]
    · simp [Table.get?, ih]

/-- Every entry of a table with one put is the new one or an old one. -/
theorem mem_put {k : Nat} {v : α} {t : Table α} {x : Nat × α} (h : x ∈ Table.put k v t) : x = (k, v) ∨ x ∈ t := by
  induction t with
  | nil => simpa [Table.put] using h
  | cons y t ih =>
    obtain ⟨j, w⟩ := y
    unfold Table.put at h
    split at h
    · simpa using h
    · split at h
      · rcases List.mem_cons.1 h with h | h
        · exact Or.inl h
        · exact Or.inr (List.mem_cons_of_mem _ h)
      · rcases List.mem_cons.1 h with h | h
        · exact Or.inr (by simp [h])
        · rcases ih h with h | h
          · exact Or.inl h
          · exact Or.inr (List.mem_cons_of_mem _ h)

/-- Deleting keeps the other entries in their order. -/
theorem del_sublist (k : Nat) (t : Table α) : (Table.del k t).Sublist t := by
  induction t with
  | nil => simp [Table.del]
  | cons y t ih =>
    obtain ⟨j, w⟩ := y
    unfold Table.del
    split
    · exact List.sublist_cons_self _ _
    · exact ih.cons_cons _

theorem mem_del {k : Nat} {t : Table α} {x : Nat × α} (h : x ∈ Table.del k t) : x ∈ t := (del_sublist k t).subset h

/-- In canonical form the deleted key is gone. -/
theorem ne_of_mem_del {k : Nat} {t : Table α} (hw : Table.wf t) {x : Nat × α} (h : x ∈ Table.del k t) : x.1 ≠ k := by
  induction t with
  | nil => simp [Table.del] at h
  | cons y t ih =>
    obtain ⟨j, w⟩ := y
    have hw' := List.pairwise_cons.1 hw
    unfold Table.del at h
    split at h
    · rename_i hj
      have := hw'.1 x h
      simp only at this
      omega
    · rename_i hj
      rcases List.mem_cons.1 h with h | h
      · subst h; exact hj
      · exact ih hw'.2 h

/-- What a look-up answers is an entry. -/
theorem mem_of_get? {k : Nat} {v : α} {t : Table α} (h : t.get? k = some v) : (k, v) ∈ t := by
  induction t with
  | nil => simp [Table.get?] at h
  | cons y t ih =>
    obtain ⟨j, w⟩ := y
    unfold Table.get? at h
    split at h
    · rename_i hj
      simp only [Option.some.injEq] at h
      simp [hj, h]
    · exact List.mem_cons_of_mem _ (ih h)

/-- A look-up that answers nothing finds no entry of the key. -/
theorem ne_of_get?_none {k : Nat} {t : Table α} (h : t.get? k = none) {x : Nat × α} (hx : x ∈ t) : x.1 ≠ k := by
  induction t with
  | nil => simp at hx
  | cons y t ih =>
    obtain ⟨j, w⟩ := y
    unfold Table.get? at h
    split at h
    · simp at h
    · rename_i hj
      rcases List.mem_cons.1 hx with hx | hx
      · subst hx; exact hj
      · exact ih h hx

/-- In canonical form each entry is what its key looks up. -/
theorem get?_of_mem {k : Nat} {v : α} {t : Table α} (hw : Table.wf t) (h : (k, v) ∈ t) : t.get? k = some v := by
  induction t with
  | nil => simp at h
  | cons y t ih =>
    obtain ⟨j, w⟩ := y
    have hw' := List.pairwise_cons.1 hw
    unfold Table.get?
    rcases List.mem_cons.1 h with h | h
    · simp only [Prod.mk.injEq] at h
      simp [h.1, h.2]
    · have := hw'.1 _ h
      have hne : ¬ j = k := by simp only at this; omega
      simp [hne, ih hw'.2 h]

theorem wf_nil : Table.wf ([] : Table α) := List.Pairwise.nil

theorem wf_put {k : Nat} {v : α} {t : Table α} (hw : Table.wf t) : Table.wf (Table.put k v t) := by
  induction t with
  | nil => simp [Table.put, Table.wf]
  | cons y t ih =>
    obtain ⟨j, w⟩ := y
    have hw' := List.pairwise_cons.1 hw
    unfold Table.put
    split
    · rename_i hkj
      refine List.pairwise_cons.2 ⟨?_, hw⟩
      intro x hx
      rcases List.mem_cons.1 hx with hx | hx
      · subst hx; exact hkj
      · have := hw'.1 x hx
        simp only at this ⊢
        omega
    · split
      · rename_i h1 h2
        subst h2
        exact List.pairwise_cons.2 ⟨hw'.1, hw'.2⟩
      · rename_i h1 h2
        refine List.pairwise_cons.2 ⟨?_, ih hw'.2⟩
        intro x hx
        rcases mem_put hx with hx | hx
        · subst hx
          simp only
          omega
        · exact hw'.1 x hx

theorem wf_del {k : Nat} {t : Table α} (hw : Table.wf t) : Table.wf (Table.del k t) := hw.sublist (del_sublist k t)

theorem wf_keep {p : α → Bool} {t : Table α} (hw : Table.wf t) : Table.wf (t.keep p) := hw.sublist List.filter_sublist

theorem wf_mapRecords {f : α → α} {t : Table α} (hw : Table.wf t) : Table.wf (t.mapRecords f) := by
  unfold Table.mapRecords
  exact List.pairwise_map.2 (hw.imp (fun h => h))

theorem mem_keep {p : α → Bool} {t : Table α} {x : Nat × α} (h : x ∈ t.keep p) : x ∈ t ∧ p x.2 = true := List.mem_filter.1 h

theorem mem_mapRecords {f : α → α} {t : Table α} {x : Nat × α} (h : x ∈ t.mapRecords f) :
    ∃ y ∈ t, x = (y.1, f y.2) := by
  unfold Table.mapRecords at h
  rcases List.mem_map.1 h with ⟨y, hy, rfl⟩
  exact ⟨y, hy, rfl⟩

theorem get?_mapRecords (f : α → α) (t : Table α) (k : Nat) : (t.mapRecords f).get? k = (t.get? k).map f := by
  induction t with
  | nil => simp [Table.mapRecords, Table.get?]
  | cons y t ih =>
    obtain ⟨j, w⟩ := y
    have : Table.mapRecords f ((j, w) :: t) = (j, f w) :: Table.mapRecords f t := rfl
    rw [this]
    unfold Table.get?
    split <;> simp_all

/-- A search answers an entry that passes. -/
theorem findBy_some {p : α → Bool} {t : Table α} {x : Nat × α} (h : t.findBy p = some x) : x ∈ t ∧ p x.2 = true :=
  ⟨List.mem_of_find?_eq_some h, by simpa using List.find?_some h⟩

/-- A search that answers nothing: no entry passes. -/
theorem findBy_none {p : α → Bool} {t : Table α} (h : t.findBy p = none) {x : Nat × α} (hx : x ∈ t) : p x.2 = false := by
  have := List.find?_eq_none.1 h x hx
  simpa using this

end Sys2Proof.Laws
end

