-- ==== Sys2Proof/Laws/Spoken.lean ====
section
/-! SUPPORT. What the shared operations of Ops.lean and Requests.lean can do: counting, admission, sending and answering only
say something (`Spoken`, `Answered`). Later proofs cite these lemmas in place of unfolding the operations. -/

namespace Sys2Proof.Laws

open Sys2Proof.Machine

/-! ### Ports and queues -/

theorem portIndex_inj {p q : PortId} (h : portIndex p = portIndex q) : p = q := by
  have hv := congrArg Fin.val h
  rcases p with _ | _ | n | n | l <;> rcases q with _ | _ | m | m | k <;>
    (try cases l) <;> (try cases k) <;> simp only [portIndex] at hv <;>
    first
    | rfl
    | (exfalso; omega)
    | (congr 1; apply Fin.ext; omega)

theorem port_setPort (s : State) (p q : PortId) (v : PortState) :
    (s.setPort p v).port q = if q = p then v else s.port q := by
  unfold State.setPort State.port
  split
  · rename_i h; subst h; simp
  · rename_i h
    have hne : (portIndex p).val ≠ (portIndex q).val := fun e => h (portIndex_inj (Fin.ext e)).symm
    simp [hne]

@[simp] theorem port_setPort_self (s : State) (p : PortId) (v : PortState) : (s.setPort p v).port p = v := by
  simp [port_setPort]

theorem setPort_eq (s : State) (p : PortId) (v : PortState) :
    s.setPort p v = { s with ports := (s.setPort p v).ports } := rfl

theorem perClass_get_set {α : Type} (q : PerClass α) (c d : OutClass) (v : α) :
    (q.set c v).get d = if d = c then v else q.get d := by cases c <;> cases d <;> rfl

/-! ### Spoken is reflexive and transitive -/

theorem spoken_refl (s : State) : Spoken s s where
  rest := rfl
  ports := fun _ => rfl
  queues := fun _ _ => List.prefix_rfl
  frames := fun _ _ => rfl
  nextRef := Nat.le_refl _
  bucket := rfl
  counters := fun _ _ _ => rfl
  drops := fun _ => Nat.min_le_left _ _

theorem spoken_trans {s t u : State} (h : Spoken s t) (k : Spoken t u) : Spoken s u where
  rest := by
    have h1 := h.rest
    have h2 := k.rest
    rw [h1] at h2
    exact h2
  ports := fun p => by rw [k.ports p, h.ports p]
  queues := fun p c => (h.queues p c).trans (k.queues p c)
  frames := fun r hr => by rw [k.frames r (Nat.lt_of_lt_of_le hr h.nextRef), h.frames r hr]
  nextRef := Nat.le_trans h.nextRef k.nextRef
  bucket := by rw [k.bucket, h.bucket]
  counters := fun e h1 h2 => by rw [k.counters e h1 h2, h.counters e h1 h2]
  drops := fun e => by
    have h1 := h.drops e
    have h2 := k.drops e
    omega

/-! ### Events -/

/-- The two kinds that a refused frame counts (R36). -/
def isDrop (k : EventKind) : Prop := k = .cellDrop ∨ k = .queueDrop

theorem kindIndex_inj {k j : EventKind} (h : kindIndex k = kindIndex j) : k = j := by
  cases k <;> cases j <;> first | rfl | (exact absurd h (by decide))

theorem counter_setEvents (s : State) (v : Events) (k : EventKind) : (s.setEvents v).counter k = v.counters[kindIndex k] := rfl

theorem counter_raise (s : State) (k j : EventKind) (n : Nat) :
    (s.raise k n).counter j = if j = k then min (s.counter k + n) 65535 else s.counter j := by
  unfold State.raise
  rw [counter_setEvents]
  split
  · rename_i h; subst h; simp
  · rename_i h
    have hne : (kindIndex k).val ≠ (kindIndex j).val := fun e => h (kindIndex_inj (Fin.ext e)).symm
    simp [State.counter, hne]

/-- A change of the events' record that leaves the counters but the two drops alone, and lowers none, only says something. -/
theorem spoken_setEvents (s : State) (v : Events)
    (h : ∀ k, k ≠ .cellDrop → k ≠ .queueDrop → v.counters[kindIndex k] = s.counter k)
    (hd : ∀ k, min (s.counter k) 65535 ≤ v.counters[kindIndex k]) : Spoken s (s.setEvents v) where
  rest := rfl
  ports := fun _ => rfl
  queues := fun _ _ => List.prefix_rfl
  frames := fun _ _ => rfl
  nextRef := Nat.le_refl _
  bucket := rfl
  counters := h
  drops := hd

theorem spoken_setOwed (s : State) (k : EventKind) (b : Bool) : Spoken s (s.setOwed k b) :=
  spoken_setEvents s _ (fun _ _ _ => rfl) (fun _ => Nat.min_le_left _ _)

theorem spoken_raise_drop (s : State) {k : EventKind} (hk : isDrop k) (n : Nat) : Spoken s (s.raise k n) := by
  refine spoken_setEvents s _ ?_ ?_
  · intro j h1 h2
    have := counter_raise s k j n
    have hne : j ≠ k := by rcases hk with rfl | rfl <;> assumption
    rw [if_neg hne] at this
    exact this
  · intro j
    have := counter_raise s k j n
    have hd : (s.raise k n).counter j = (s.events.counters.set (kindIndex k) (min (s.counter k + n) 65535))[kindIndex j] := rfl
    rw [← hd, this]
    split
    · rename_i h; subst h; omega
    · omega

/-! ### Admission (R36) -/

theorem spoken_joinQueue (s : State) (c : OutClass) (ref : Nat) (p : PortId) : Spoken s (s.joinQueue c ref p) := by
  refine ⟨rfl, ?_, ?_, fun _ _ => rfl, Nat.le_refl _, rfl, fun _ _ _ => rfl, fun _ => Nat.min_le_left _ _⟩
  · intro q
    unfold State.joinQueue State.setQueue
    rw [port_setPort]
    split
    · rename_i h; subst h; rfl
    · rfl
  · intro q d
    unfold State.joinQueue State.setQueue
    unfold State.queue
    rw [port_setPort]
    split
    · rename_i h
      subst h
      simp only
      rw [perClass_get_set]
      split
      · rename_i h; subst h; exact List.prefix_append _ _
      · exact List.prefix_rfl
    · exact List.prefix_rfl

theorem spoken_foldl {β : Type} (f : State → β → State) (h : ∀ t x, Spoken t (f t x)) (l : List β) (s : State) :
    Spoken s (l.foldl f s) := by
  induction l generalizing s with
  | nil => exact spoken_refl s
  | cons x l ih => exact spoken_trans (h s x) (ih (f s x))

theorem spoken_storeFrame (s : State) (c : OutClass) (o : Origin) (bytes : List Byte) (accepting : List PortId) :
    Spoken s (s.storeFrame c o bytes accepting) := by
  unfold State.storeFrame
  refine spoken_trans ?_ (spoken_foldl _ (fun t p => spoken_joinQueue t c _ p) _ _)
  refine ⟨rfl, fun _ => rfl, fun _ _ => List.prefix_rfl, ?_, Nat.le_succ _, rfl, fun _ _ _ => rfl,
    fun _ => Nat.min_le_left _ _⟩
  intro r hr
  exact get?_put_ne (by omega) _ _

/-- Admission stores the frame or leaves the state as it was, and the events it leaves to count are drops (R36). -/
theorem spoken_admit (s : State) (c : OutClass) (o : Origin) (bytes : List Byte) (targets : List PortId) :
    Spoken s (s.admitFrame c o bytes targets).1 := by
  unfold State.admitFrame
  dsimp only
  split
  · exact spoken_refl s
  · split
    · exact spoken_refl s
    · split
      · exact spoken_storeFrame s c o bytes _
      · exact spoken_refl s

theorem admit_drops (s : State) (c : OutClass) (o : Origin) (bytes : List Byte) (targets : List PortId) :
    ∀ k ∈ (s.admitFrame c o bytes targets).2.2, isDrop k := by
  unfold State.admitFrame
  dsimp only
  intro k
  split
  · simp
  · split
    · intro h; exact Or.inr (List.eq_of_mem_replicate h)
    · split
      · intro h; exact Or.inr (List.eq_of_mem_replicate h)
      · intro h
        rcases List.mem_append.1 h with h | h
        · exact Or.inr (List.eq_of_mem_replicate h)
        · exact Or.inl (by simpa using h)

/-! ### Counting (R189, R190) -/

theorem spoken_offerNotice (s : State) (k : EventKind) : Spoken s (s.offerNotice k).1 := by
  unfold State.offerNotice
  exact spoken_trans (spoken_admit s _ _ _ _) (spoken_setEvents _ _ (fun _ _ _ => rfl) (fun _ => Nat.min_le_left _ _))

theorem offerNotice_drops (s : State) (k : EventKind) : ∀ d ∈ (s.offerNotice k).2, isDrop d := admit_drops s _ _ _ _

theorem spoken_foldl_mem {β : Type} (f : State → β → State) (l : List β) (h : ∀ x ∈ l, ∀ t, Spoken t (f t x)) (s : State) :
    Spoken s (l.foldl f s) := by
  induction l generalizing s with
  | nil => exact spoken_refl s
  | cons x l ih =>
    exact spoken_trans (h x (by simp) s) (ih (fun y hy => h y (by simp [hy])) (f s x))

/-- Counting raises the counter; what follows, a notice or a mark, only says something. -/
theorem spoken_countWith (fuel : Nat) (k : EventKind) (n : Nat) (s : State) :
    Spoken (s.raise k n) (State.countWith fuel k n s) := by
  induction fuel generalizing k n s with
  | zero => exact spoken_refl _
  | succ fuel ih =>
    unfold State.countWith
    split
    · split
      · refine spoken_trans (spoken_offerNotice (s.raise k n) k) (spoken_foldl_mem _ _ ?_ _)
        intro d hd t
        exact spoken_trans (spoken_raise_drop t (offerNotice_drops _ _ d hd) 1) (ih d 1 t)
      · exact spoken_setOwed _ _ _
    · exact spoken_refl _

theorem spoken_countBy (s : State) (k : EventKind) (n : Nat) : Spoken (s.raise k n) (s.countBy k n) := spoken_countWith 4 k n s

/-- Counting an event raises its counter by 1, saturating, and beyond that only says something (R189, R190). -/
theorem spoken_count (s : State) (k : EventKind) : Spoken (s.raise k 1) (s.count k) := spoken_countBy s k 1

theorem spoken_count_drop (s : State) {k : EventKind} (hk : isDrop k) : Spoken s (s.count k) :=
  spoken_trans (spoken_raise_drop s hk 1) (spoken_count s k)

theorem spoken_countAll_drops (s : State) {ks : List EventKind} (h : ∀ k ∈ ks, isDrop k) : Spoken s (s.countAll ks) :=
  spoken_foldl_mem _ ks (fun k hk t => spoken_count_drop t (h k hk)) s

theorem spoken_offerOwedFrom (ks : List EventKind) (s : State) : Spoken s (State.offerOwedFrom ks s) := by
  induction ks generalizing s with
  | nil => exact spoken_refl s
  | cons k ks ih =>
    unfold State.offerOwedFrom
    split
    · dsimp only
      split
      · exact spoken_trans (spoken_setOwed s k false) (ih _)
      · exact spoken_trans (spoken_trans (spoken_trans (spoken_setOwed s k false) (spoken_offerNotice _ k))
          (spoken_countAll_drops _ (offerNotice_drops _ k))) (ih _)
    · exact ih s

theorem spoken_offerOwed (s : State) : Spoken s s.offerOwed := by
  unfold State.offerOwed
  split
  · exact spoken_offerOwedFrom _ s
  · exact spoken_refl s

theorem spoken_offerOwedIfOpened (s : State) (b : Bool) : Spoken s (s.offerOwedIfOpened b) := by
  unfold State.offerOwedIfOpened
  split
  · exact spoken_refl s
  · exact spoken_offerOwed s

/-! ### What counting an event leaves of the queues -/

/-- A Control frame offered to CTL leaves every queue but CTL's Control queue. -/
theorem queue_admit_ctl (s : State) (bytes : List Byte) {p : PortId} {c : OutClass} (h : p ≠ .ctl ∨ c ≠ .control) :
    (s.admitFrame .control .generated bytes [.ctl]).1.queue p c = s.queue p c := by
  unfold State.admitFrame
  split
  · rfl
  · dsimp only
    split
    · rfl
    · split
      · have ha : s.accepting .control [.ctl] = [.ctl] ∨ s.accepting .control [.ctl] = [] := by
          unfold State.accepting
          cases hc : s.takesCopy .control .ctl <;> simp [List.filter, hc]
        rcases ha with ha | ha
        · rw [ha]
          unfold State.storeFrame
          simp only [List.foldl]
          unfold State.joinQueue State.setQueue State.queue
          rw [port_setPort]
          split
          · rename_i hp
            subst hp
            show (PerClass.set _ _ _).get c = _
            rw [perClass_get_set, if_neg (by simpa using h)]
            rfl
          · rfl
        · rename_i hn _
          simp [ha] at hn
      · rfl

/-- Counting an event leaves every queue but CTL's Control queue (R190). -/
theorem queue_countWith (fuel : Nat) (k : EventKind) (n : Nat) (s : State) {p : PortId} {c : OutClass}
    (h : p ≠ .ctl ∨ c ≠ .control) : (State.countWith fuel k n s).queue p c = s.queue p c := by
  induction fuel generalizing k n s with
  | zero => rfl
  | succ m ih =>
    unfold State.countWith
    split
    · split
      · dsimp only
        have fold : ∀ (l : List EventKind) (t : State),
            (l.foldl (fun t d => State.countWith m d 1 t) t).queue p c = t.queue p c := by
          intro l
          induction l with
          | nil => exact fun _ => rfl
          | cons d ds ihl => intro t; rw [List.foldl_cons, ihl, ih]
        rw [fold]
        exact queue_admit_ctl _ _ h
      · rfl
    · rfl

/-- Counting one event leaves every queue but CTL's Control queue (R190). -/
theorem queue_count (s : State) (k : EventKind) {p : PortId} {c : OutClass} (h : p ≠ .ctl ∨ c ≠ .control) :
    (s.count k).queue p c = s.queue p c := queue_countWith 4 k 1 s h

/-! ### Sending (R204) -/

theorem spoken_offer (s : State) (c : OutClass) (o : Origin) (bytes : List Byte) (targets : List PortId) :
    Spoken s (s.offer c o bytes targets).1 :=
  spoken_trans (spoken_admit s c o bytes targets) (spoken_countAll_drops _ (admit_drops s c o bytes targets))

theorem spoken_send (s : State) (kind : Nat) (p : PortId) (dst : Station) (tag : Nat) (body : List Byte) :
    Spoken s (s.send kind p dst tag body).1 := spoken_offer s _ _ _ _

/-- A message to head office only says something, but for the free value drawn while no station is configured (log 11). -/
theorem spoken_sendHeadOffice (s : State) (kind tag : Nat) (body : List Byte) :
    Spoken s.drawStation (s.sendHeadOffice kind tag body) := by
  have h := spoken_send s kind .up s.headOfficeStation tag body
  unfold State.sendHeadOffice State.drawStation
  have hs : (s.send kind .up s.headOfficeStation tag body).1.settings = s.settings := by rw [h.rest]
  have hf : (s.send kind .up s.headOfficeStation tag body).1.freeUsed = s.freeUsed := by rw [h.rest]
  rw [hs, hf]
  split
  · refine ⟨?_, h.ports, h.queues, h.frames, h.nextRef, h.bucket, h.counters, h.drops⟩
    have := h.rest
    rw [this]
    rfl
  · exact h

theorem spoken_respond (s : State) (src : Source) (f : List Byte) (op : Byte) (st : Status) (results : List Byte) :
    Spoken s (s.respond src f op st results).1 := spoken_send s _ _ _ _ _

/-! ### What is the same after something has been said -/

/-! ### The marks of kinds written disabled -/

theorem isOwed_setOwed (s : State) (k j : EventKind) (b : Bool) : (s.setOwed k b).isOwed j = if j = k then b else s.isOwed j := by
  show (s.events.owed.set (kindIndex k) b)[kindIndex j] = _
  split
  · rename_i h; subst h; simp
  · rename_i h
    have hne : (kindIndex k).val ≠ (kindIndex j).val := fun e => h (kindIndex_inj (Fin.ext e)).symm
    simp [State.isOwed, hne]

theorem spoken_clearIfDisabled (s : State) (k : EventKind) : Spoken s (s.clearIfDisabled k) := by
  unfold State.clearIfDisabled
  split
  · exact spoken_refl s
  · exact spoken_setOwed s k false

/-- Clearing the marks of a list of kinds clears those of its disabled ones and no other, and counts nothing (R190). -/
theorem clearDisabledKinds_spec (ks : List EventKind) (s t : State) (ht : t = ks.foldl State.clearIfDisabled s) :
    Spoken s t ∧ (∀ k, t.counter k = s.counter k) ∧
    ∀ k, t.isOwed k = (s.isOwed k && !(decide (k ∈ ks) && !s.notifies k)) := by
  induction ks generalizing s with
  | nil => subst ht; exact ⟨spoken_refl _, fun _ => rfl, fun k => by simp⟩
  | cons j ks ih =>
    obtain ⟨h1, h2, h3⟩ := ih _ ht
    refine ⟨spoken_trans (spoken_clearIfDisabled s j) h1, fun k => (h2 k).trans ?_, fun k => (h3 k).trans ?_⟩
    · unfold State.clearIfDisabled; split <;> rfl
    · unfold State.clearIfDisabled
      split
      · rename_i hj
        by_cases hk : k = j <;> by_cases hm : k ∈ ks <;> simp_all
      · rename_i hj
        rw [isOwed_setOwed, show (s.setOwed j false).notifies k = s.notifies k from rfl]
        by_cases hk : k = j <;> by_cases hm : k ∈ ks <;> simp_all

theorem clearDisabled_spec (es : List Entry) (s : State) :
    Spoken s (s.clearDisabled es) ∧ (∀ k, (s.clearDisabled es).counter k = s.counter k) ∧
    ∀ k, (s.clearDisabled es).isOwed k = (s.isOwed k && !(decide (k ∈ writtenKinds es) && !s.notifies k)) :=
  clearDisabledKinds_spec _ _ _ rfl

theorem spoken_supplied {s t : State} (h : Spoken s t) : t.supplied = s.supplied := by rw [h.rest]

theorem spoken_resetHeld {s t : State} (h : Spoken s t) : t.resetHeld = s.resetHeld := by rw [h.rest]

theorem spoken_clock {s t : State} (h : Spoken s t) : t.clock = s.clock := by rw [h.rest]

theorem spoken_mode {s t : State} (h : Spoken s t) : t.mode = s.mode := by rw [h.rest]

theorem spoken_schedule {s t : State} (h : Spoken s t) : t.schedule = s.schedule := by rw [h.rest]

theorem spoken_settings {s t : State} (h : Spoken s t) : t.settings = s.settings := by rw [h.rest]

theorem spoken_addresses {s t : State} (h : Spoken s t) : t.addresses = s.addresses := by rw [h.rest]

theorem spoken_handed {s t : State} (h : Spoken s t) : t.handed = s.handed := by rw [h.rest]

theorem spoken_items {s t : State} (h : Spoken s t) : t.items = s.items := by rw [h.rest]

theorem spoken_tills {s t : State} (h : Spoken s t) : t.tills = s.tills := by rw [h.rest]

theorem spoken_priceErrors {s t : State} (h : Spoken s t) : t.priceErrors = s.priceErrors := by rw [h.rest]

theorem spoken_load {s t : State} (h : Spoken s t) : t.load = s.load := by rw [h.rest]

theorem spoken_journal {s t : State} (h : Spoken s t) : t.journal = s.journal := by rw [h.rest]

theorem spoken_labels {s t : State} (h : Spoken s t) : t.labels = s.labels := by rw [h.rest]

theorem spoken_links {s t : State} (h : Spoken s t) : t.links = s.links := by rw [h.rest]

theorem spoken_pacer {s t : State} (h : Spoken s t) : t.pacer = s.pacer := by rw [h.rest]

theorem spoken_batch {s t : State} (h : Spoken s t) : t.batch = s.batch := by rw [h.rest]

theorem spoken_lastVerdict {s t : State} (h : Spoken s t) : t.lastVerdict = s.lastVerdict := by rw [h.rest]

theorem spoken_session {s t : State} (h : Spoken s t) : t.session = s.session := by rw [h.rest]

theorem spoken_guests {s t : State} (h : Spoken s t) : t.guests = s.guests := by rw [h.rest]

theorem spoken_beaconPulses {s t : State} (h : Spoken s t) : t.beaconPulses = s.beaconPulses := by rw [h.rest]

theorem spoken_freeUsed {s t : State} (h : Spoken s t) : t.freeUsed = s.freeUsed := by rw [h.rest]

theorem spoken_pending {s t : State} (h : Spoken s t) : t.pending = s.pending := by rw [h.rest]

theorem spoken_supervision {s t : State} (h : Spoken s t) : t.management.supervision = s.management.supervision := by
  rw [h.rest]

theorem spoken_managementErrors {s t : State} (h : Spoken s t) : t.management.messageErrors = s.management.messageErrors := by
  rw [h.rest]

theorem spoken_causes {s t : State} (h : Spoken s t) : t.management.causes = s.management.causes := by
  rw [h.rest]

theorem spoken_restart {s t : State} (h : Spoken s t) : t.management.restart = s.management.restart := by
  rw [h.rest]

theorem spoken_image {s t : State} (h : Spoken s t) : t.management.image = s.management.image := by
  rw [h.rest]

theorem spoken_strap {s t : State} (h : Spoken s t) : t.management.strap = s.management.strap := by
  rw [h.rest]

theorem spoken_flash {s t : State} (h : Spoken s t) : t.management.flash = s.management.flash := by
  rw [h.rest]

theorem spoken_saving {s t : State} (h : Spoken s t) : t.management.saving = s.management.saving := by
  rw [h.rest]

theorem spoken_isUp {s t : State} (h : Spoken s t) (p : PortId) : t.isUp p = s.isUp p := by
  unfold State.isUp
  rw [h.ports p]

theorem spoken_sending {s t : State} (h : Spoken s t) (p : PortId) : (t.port p).sending = (s.port p).sending := by
  rw [h.ports p]

theorem spoken_loading {s t : State} (h : Spoken s t) : t.loading = s.loading := by
  unfold State.loading
  rw [spoken_image h]

end Sys2Proof.Laws
end

