-- ==== Sys2Proof/Laws/Batches.lean ====
section
/-! SUPPORT. What the Batch Unit's operations can do: applying changes moves items alone, and a Part Ack only says something. -/

namespace Sys2Proof.Laws

open Sys2Proof.Machine

/-- Reading a number of pieces gives that many. -/
theorem length_piecesAt (b : List Byte) (off w n : Nat) : (piecesAt b off w n).length = n := by
  induction n generalizing off with
  | zero => rfl
  | succ n ih => simp [piecesAt, ih]

/-- A change moves items alone (R126). -/
theorem applyChange_eq (s : State) (e : List Byte) : (s.applyChange e).1 = { s with items := (s.applyChange e).1.items } := by
  unfold State.applyChange
  dsimp only
  split
  · rfl
  · split
    · rfl
    · split
      · rfl
      · split
        · rfl
        · split <;> rfl

/-- The changes of a part move items alone (R126). -/
theorem applyChanges_eq (es : List (List Byte)) (s : State) :
    (applyChanges es s).1 = { s with items := (applyChanges es s).1.items } := by
  induction es generalizing s with
  | nil => rfl
  | cons e es ih =>
    simp only [applyChanges]
    rw [ih, applyChange_eq]

/-- Every change has its result (R126). -/
theorem length_applyChanges (es : List (List Byte)) (s : State) : (applyChanges es s).2.length = es.length := by
  induction es generalizing s with
  | nil => rfl
  | cons e es ih => simp [applyChanges, ih]

/-- A message to head office leaves the Batch Record. -/
theorem sendHeadOffice_batch (s : State) (kind tag : Nat) (body : List Byte) : (s.sendHeadOffice kind tag body).batch = s.batch := by
  rw [spoken_batch (spoken_sendHeadOffice s kind tag body)]
  unfold State.drawStation
  split <;> rfl

/-- With a record standing, a Part Ack draws no free counts (log 11). -/
theorem drawCounts_of_batch {s : State} {b : Batch} (h : s.batch = some b) : s.drawCounts = s := by simp [State.drawCounts, h]

end Sys2Proof.Laws
end

