-- ==== Sys2Proof/Laws/Blocks.lean ====
section
/-! SUPPORT. What the sending of a Journal Block can do (8.4, 11.6). -/

namespace Sys2Proof.Laws

open Sys2Proof.Machine

/-- No block waits where every outstanding one is Offered. -/
theorem anyWaiting_eq_false (x : Session) : x.anyWaiting = false ↔ ∀ b ∈ x.outstanding, b.condition = .offered := by
  unfold Session.anyWaiting
  rw [← Bool.not_eq_true, List.any_eq_true]
  push Not
  constructor
  · intro h b hb; have := h b hb; cases hc : b.condition <;> simp_all
  · intro h b hb; rw [h b hb]; simp

/-- What only says something does so whatever number of free values has been drawn. -/
theorem spoken_freeUsed_congr {s t : State} (h : Spoken s t) (n : Nat) :
    Spoken { s with freeUsed := n } { t with freeUsed := n } := by
  refine ⟨?_, h.ports, h.queues, h.frames, h.nextRef, h.bucket, h.counters, h.drops⟩
  rw [h.rest]

/-- A segment offered only says something, but for the free value drawn while no station is configured (log 11). -/
theorem spoken_offerSegment (s : State) (b : OutBlock) (body : List Byte) :
    ∃ n, Spoken { s with freeUsed := n } (s.offerSegment b body).1 := by
  have h := spoken_admit s .bulk .generated (buildMessage 0x42 s.headOfficeStation s.managementAddress b.number body) [.up]
  unfold State.offerSegment State.drawStation
  dsimp only
  split
  · exact ⟨_, spoken_freeUsed_congr h _⟩
  · exact ⟨s.freeUsed, h⟩

/-- Segments offered only say something besides, and leave a block of the same number and records (R149, R205). -/
theorem offerSegments_spec (b : OutBlock) (segs : List (List Byte)) (k : Nat) (s : State) :
    (∃ n, Spoken { s with freeUsed := n } (offerSegments b segs k s).1) ∧ (offerSegments b segs k s).2.number = b.number ∧
    (offerSegments b segs k s).2.first = b.first ∧ (offerSegments b segs k s).2.records = b.records := by
  induction segs generalizing k s with
  | nil => exact ⟨⟨s.freeUsed, spoken_refl _⟩, rfl, rfl, rfl⟩
  | cons body rest ih =>
    obtain ⟨n, hn⟩ := spoken_offerSegment s b body
    unfold offerSegments
    dsimp only
    split
    · obtain ⟨⟨m, hm⟩, hb⟩ := ih (k + 1) (s.offerSegment b body).1
      exact ⟨⟨m, spoken_trans (spoken_freeUsed_congr hn m) hm⟩, hb⟩
    · refine ⟨⟨n, ?_⟩, rfl, rfl, rfl⟩
      split
      · exact hn
      · exact spoken_trans hn (spoken_countAll_drops _ (admit_drops s _ _ _ _))

/-- The session once a new block stands in it, its Timer started (R148). -/
def sentSession (s : State) (b : OutBlock) : Session :=
  { s.session with
    nextSend := some (b.first + b.records), nextBlock := s.session.nextBlock + 1
    timer := some (s.session.timer.getD s.blockTimerMs) }

/-- The session after a new block has been sent: the block stands last, Offered or Waiting (R148). -/
theorem sendBlock_session (s : State) (b : OutBlock) :
    ∃ x : OutBlock, (s.sendBlock b).session = (sentSession s b).withOutstanding (s.session.outstanding ++ [x]) ∧
      x.number = b.number ∧ x.first = b.first ∧ x.records = b.records := by
  unfold State.sendBlock State.offerBlock
  dsimp only
  obtain ⟨⟨n, hn⟩, hb⟩ := offerSegments_spec b (((s.setSession (sentSession s b)).blockSegments b).drop 0) 0
    (s.setSession (sentSession s b))
  exact ⟨_, congrArg (fun x : Session => x.withOutstanding (x.outstanding ++ [_])) (spoken_session hn), hb⟩

end Sys2Proof.Laws
end

