-- ==== Sys2Proof/Laws/Classifier.lean ====
section
/-! SUPPORT. What the Classifier's parts can do: source handling, the taking of a message, the resolution of a destination and the
Guest Unit's taking of an arrival. -/

namespace Sys2Proof.Laws

open Sys2Proof.Machine

/-! ### Source handling and messages -/

/-- The settings, the Links, controller supervision and the straps stand as they did. -/
structure Kept (s v : State) : Prop where
  settings : v.settings = s.settings
  isUp : ∀ q, v.isUp q = s.isUp q
  supervision : v.management.supervision = s.management.supervision
  strap : v.management.strap = s.management.strap

theorem kept_refl (s : State) : Kept s s := ⟨rfl, fun _ => rfl, rfl, rfl⟩

theorem kept_trans {s v w : State} (h : Kept s v) (k : Kept v w) : Kept s w :=
  ⟨k.settings.trans h.settings, fun q => (k.isUp q).trans (h.isUp q), k.supervision.trans h.supervision, k.strap.trans h.strap⟩

/-- They stand after something has been said. -/
theorem kept_spoken {s t : State} (h : Spoken s t) : Kept s t :=
  ⟨spoken_settings h, spoken_isUp h, spoken_supervision h, spoken_strap h⟩

/-- They stand after an event has been counted. -/
theorem kept_count (s : State) (k : EventKind) : Kept s (s.count k) :=
  kept_trans (v := s.raise k 1) ⟨rfl, fun _ => rfl, rfl, rfl⟩ (kept_spoken (spoken_count s k))

/-- They stand after the Address Table has changed. -/
theorem kept_setAddresses (s : State) (t : Table AddressEntry) : Kept s (s.setAddresses t) := ⟨rfl, fun _ => rfl, rfl, rfl⟩

/-- They stand after the source of a frame has been handled (R22, R23). -/
theorem kept_handleSource (s : State) (p : PortId) (a : Station) : Kept s (s.handleSource p a) := by
  unfold State.handleSource
  split
  · exact kept_refl s
  · split
    · exact kept_refl s
    · unfold State.zoneMoveCheck
      split
      · exact kept_trans (kept_setAddresses s _) (kept_count _ .zoneMove)
      · exact kept_refl s
    all_goals
      unfold State.learn
      split
      · exact kept_setAddresses s _
      · split
        · exact kept_refl s
        · split
          · exact kept_setAddresses s _
          · exact kept_count s .addrFull

/-- So the matrix permits what it permitted. -/
theorem permits_kept {s v : State} (h : Kept s v) (x y : Zone) : v.permits x y = s.permits x y := by
  unfold State.permits; rw [h.settings]

/-- And the management station address is the same. -/
theorem managementAddress_kept {s v : State} (h : Kept s v) : v.managementAddress = s.managementAddress := by
  unfold State.managementAddress; rw [h.settings, h.strap]

/-- The kinds a port takes (R19), read from the settings. -/
theorem kindAccepted_iff {s v : State} (h : Kept s v) (p : PortId) (f : List Byte) :
    v.kindAccepted p f = true ↔ s.TakesKind p f := by
  unfold State.kindAccepted State.TakesKind
  rw [h.settings]
  cases p <;> simp [portZone, officeKinds]

/-- A branch message is handed on exactly where its port takes it (R18, R19). -/
theorem messageAccepted_iff {s v : State} (h : Kept s v) (p : PortId) (f : List Byte) :
    v.messageAccepted p f = true ↔ s.MessageTaken p f := by
  unfold State.messageAccepted State.MessageTaken
  rw [managementAddress_kept h]
  simp only [Bool.and_eq_true, decide_eq_true_eq, kindAccepted_iff h, and_assoc]

/-! ### Resolution -/

/-- A destination that lies at a port resolves to it (R26). -/
theorem resolve_at {v : State} {p q : PortId} {a : Station} (h : v.LiesAt p a q) : v.resolve p a = .port q := by
  unfold State.resolve
  rcases h with ⟨e, h1, h2⟩ | ⟨h1, h2, h3, h4⟩
  · rw [show v.findAddress a = some e from h1]; simp [h2]
  · rw [h1, h2]; simp [h3, h4]

/-- A destination that lies nowhere resolves to none (R26). -/
theorem resolve_nowhere {v : State} {p : PortId} {a : Station} (h : v.LiesNowhere p a) : v.resolve p a = .unknown := by
  unfold State.resolve
  rcases h with ⟨h1, ⟨h2, h3⟩ | ⟨⟨k, g⟩, h2, h3⟩⟩
  · rw [h1, h2]; simp [h3]
  · rw [h1, show v.findGuest a = some (k, g) from h2]; simp only at h3; simp [h3]

/-- A guest's destination resolves to its session's port (R26). -/
theorem resolve_guest {v : State} {p : PortId} {a : Station} {k : Nat} {g : Guest} {n : Fin 4} (h1 : v.findAddress a = none)
    (h2 : v.findGuest a = some (k, g)) (h3 : g.port = some n) : v.resolve p a = .guest n g.state := by
  unfold State.resolve
  rw [h1, h2]; simp [h3]

/-! ### Arrivals -/

/-- The same stand after the Guest Unit has taken an arrival (R167, R168). -/
theorem kept_guestArrival {v w : State} {n : Fin 4} {a : Station} {b : Bool} (hw : v.guestArrival a n = (w, b)) : Kept v w := by
  unfold State.guestArrival at hw
  split at hw
  · cases hw; exact ⟨rfl, fun _ => rfl, rfl, rfl⟩
  · split at hw
    · cases hw; exact kept_count v .zoneDeny
    · split at hw
      · rename_i s1 k hg
        cases hw
        unfold State.guestSlot at hg
        split at hg
        · cases hg; exact ⟨rfl, fun _ => rfl, rfl, rfl⟩
        · split at hg
          · cases hg; exact ⟨rfl, fun _ => rfl, rfl, rfl⟩
          · cases hg
      · cases hw; exact kept_count v .guestFull

end Sys2Proof.Laws
end

