-- ==== Sys2Proof/Laws/Guests.lean ====
section
/-! SUPPORT. What a guest's policer can do, what a reset leaves of the journal, and the steps of the Recovery Scan and of the
Closing Sweep. -/

namespace Sys2Proof.Laws

open Sys2Proof.Machine

/-! ### Policing (R174) -/

/-- A policer passes a frame and leaves its bucket full or lowered, or drops it and counts the drop; nothing else changes. -/
theorem police_cases (s : State) (k : Nat) (d : Direction) (n : Nat) :
    (s.guests.table.get? k = none ∧ s.police k d n = (s, true)) ∨
    (∃ g v, s.guests.table.get? k = some g ∧ s.police k d n = (s.putGuest k (g.setBucket d v), true) ∧
      (v = bucketDepth ∨ v = g.bucket d - 1000 * n)) ∨
    s.police k d n = (s.policerDrop d, false) := by
  unfold State.police
  cases h : s.guests.table.get? k with
  | none => exact Or.inl ⟨rfl, rfl⟩
  | some g =>
    refine Or.inr ?_
    dsimp only
    split
    · exact Or.inl ⟨g, bucketDepth, rfl, rfl, Or.inl rfl⟩
    · split
      · exact Or.inl ⟨g, g.bucket d - 1000 * n, rfl, rfl, Or.inr rfl⟩
      · exact Or.inr rfl

/-! ### The Closing Sweep (R177, R182) -/

/-- While RESET is held the Closing Sweep stands (log 14). -/
theorem closingSweepStep_held (s : State) (h : s.resetHeld = true) : s.closingSweepStep = s := by
  unfold State.closingSweepStep
  cases s.guests.sweep <;> simp [h]

/-- Without a sweep its step changes nothing. -/
theorem closingSweepStep_none (s : State) (h : s.guests.sweep = none) : s.closingSweepStep = s := by
  unfold State.closingSweepStep
  rw [h]

/-! ### What a reset leaves of the journal (R81, R91) -/

/-- A torn journal is the journal, or the journal with one slot appended. -/
theorem tear_cases (j : Journal) (torn : Option Slot) : j.tear torn = j ∨ ∃ x, torn = some x ∧ j.tear torn = j.append x := by
  cases torn with
  | none => exact Or.inl rfl
  | some x =>
    unfold Journal.tear
    dsimp only
    split
    · exact Or.inr ⟨x, rfl, rfl⟩
    · exact Or.inl rfl

/-- The records a reset finds stand, in their order. -/
theorem tornJournal_slots (s : State) (torn : Option Slot) : s.journal.slots <+: (s.tornJournal torn).slots := by
  unfold State.tornJournal
  split
  · exact List.prefix_refl _
  · rcases tear_cases s.journal torn with h | ⟨x, _, h⟩
    · rw [h]
    · rw [h]
      exact List.prefix_append _ _

/-- A reset while the image is Loading tears no slot. -/
theorem tornJournal_loading (s : State) (torn : Option Slot) (h : s.loading = true) : s.tornJournal torn = s.journal := by
  simp [State.tornJournal, h]

/-- Nor does one while the Recovery Scan runs. -/
theorem tear_scanning (j : Journal) (torn : Option Slot) (h : j.scan.isSome = true) : j.tear torn = j := by
  cases torn with
  | none => rfl
  | some x =>
    have hn : j.scan.isNone = false := by
      cases hj : j.scan with
      | none => rw [hj] at h; cases h
      | some p => rfl
    simp [Journal.tear, hn]

/-! ### The journal report (R84, R90, R145) -/

/-- A report that cannot be answered leaves the part as it is. -/
theorem transferOpen_not_due (s : State) (h : s.openDue = false) : s.transferOpen = s := by simp [State.transferOpen, h]

/-- The answer to a journal report leaves the journal as it is. -/
theorem transferOpen_journal (s : State) : s.transferOpen.journal = s.journal := by
  unfold State.transferOpen
  split
  · simp only [State.offerTransferOpen, State.startTimer, State.onSession, State.setSession]
    rw [spoken_journal (spoken_sendHeadOffice _ _ _ _)]
    unfold State.drawStation
    split <;> rfl
  · rfl

/-- The answer to a journal report leaves the tills as they are. -/
theorem transferOpen_tills (s : State) : s.transferOpen.tills = s.tills := by
  unfold State.transferOpen
  split
  · simp only [State.offerTransferOpen, State.startTimer, State.onSession, State.setSession]
    rw [spoken_tills (spoken_sendHeadOffice _ _ _ _)]
    unfold State.drawStation
    split <;> rfl
  · rfl

/-- A step of the Recovery Scan leaves the tills that its test leaves, whatever report it then answers. -/
theorem scanStep_tills (s : State) (damaged : Option Slot) : (s.scanStep damaged).tills = (s.recoveryScanStep damaged).tills := by
  unfold State.scanStep
  dsimp only
  split
  · exact transferOpen_tills _
  · rfl

/-- A step of the Recovery Scan leaves the journal that its test leaves, whatever report it then answers. -/
theorem scanStep_journal (s : State) (damaged : Option Slot) :
    (s.scanStep damaged).journal = (s.recoveryScanStep damaged).journal := by
  unfold State.scanStep
  dsimp only
  split
  · exact transferOpen_journal _
  · rfl

end Sys2Proof.Laws
end

