-- ==== Sys2Proof/Laws/Requests.lean ====
section
/-! SUPPORT. What taking a Control Request or a message comes to: the request's own rule, then the answer; and a row with nothing
to take. Later proofs cite these lemmas in place of unfolding `takeRequest`, `runRequest` and `judge`. -/

namespace Sys2Proof.Laws

open Sys2Proof.Machine

/-- A request that passes R183's steps is served by its own rule and answered. -/
theorem takeRequest_permitted {s : State} {src : Source} {op : Nat} {f : List Byte} (h : s.Permitted src op f)
    (serve : Source → List Byte → State → Reply) :
    takeRequest src op serve s =
      ((serve src (requestParameters f) (s.heard src f)).1).answer src f op
        (serve src (requestParameters f) (s.heard src f)).2.1 (serve src (requestParameters f) (s.heard src f)).2.2 := by
  obtain ⟨⟨hup, hf, hk, ho, he⟩, hb, hs⟩ := h
  have hup' : (s.takeHanded (sourcePort src)).isUp (sourcePort src) = true := hup
  have hb' : (s.takeHanded (sourcePort src)).barRefuses src op = false := hb
  have hj : (s.takeHanded (sourcePort src)).judge src op serve f = serve src (requestParameters f) (s.heard src f) := by
    unfold State.judge
    rw [if_neg (by simp [hb']), hs]
    rfl
  unfold takeRequest
  rw [hf]
  simp only [hk, ho, and_self, if_true]
  unfold State.runRequest
  rw [if_pos hup', if_pos he, hj]
  rfl

/-- The same, said of a request with the state and the parameters its own rule finds. -/
theorem takeRequest_takes {s u : State} {src : Source} {op : Nat} {f p : List Byte} (h : s.Takes src op f u p)
    (serve : Source → List Byte → State → Reply) :
    takeRequest src op serve s = ((serve src p u).1).answer src f op (serve src p u).2.1 (serve src p u).2.2 := by
  obtain ⟨h, rfl, rfl⟩ := h
  exact takeRequest_permitted h serve

/-- A write of head office that the bar refuses is answered Barred and nothing else is done (R185). -/
theorem takeRequest_barred {s : State} {src : Source} {op : Nat} {f : List Byte} (h : s.Asked src op f)
    (hb : s.barRefuses src op = true) (serve : Source → List Byte → State → Reply) :
    takeRequest src op serve s = (s.takeHanded (sourcePort src)).answer src f op .barred [] := by
  obtain ⟨hup, hf, hk, ho, he⟩ := h
  have hup' : (s.takeHanded (sourcePort src)).isUp (sourcePort src) = true := hup
  have hb' : (s.takeHanded (sourcePort src)).barRefuses src op = true := hb
  unfold takeRequest
  rw [hf]
  simp only [hk, ho, and_self, if_true]
  unfold State.runRequest State.judge
  rw [if_pos hup', if_pos he, if_pos hb']
  rfl

/-- A request its source may not send is answered so at step 3 of R183. -/
theorem takeRequest_sourceRefused {s : State} {src : Source} {op : Nat} {f : List Byte} {st : Status} (h : s.Asked src op f)
    (hb : s.barRefuses src op = false) (hs : sourceRefusal src op (requestParameters f) = some st)
    (serve : Source → List Byte → State → Reply) :
    takeRequest src op serve s = (s.takeHanded (sourcePort src)).answer src f op st [] := by
  obtain ⟨hup, hf, hk, ho, he⟩ := h
  have hup' : (s.takeHanded (sourcePort src)).isUp (sourcePort src) = true := hup
  have hb' : (s.takeHanded (sourcePort src)).barRefuses src op = false := hb
  unfold takeRequest
  rw [hf]
  simp only [hk, ho, and_self, if_true]
  unfold State.runRequest State.judge
  rw [if_pos hup', if_pos he, if_neg (by simp [hb']), hs]
  rfl

/-- A request row changes nothing where its request does not stand first on its source's port (log 2). -/
theorem takeRequest_other {s : State} {src : Source} {op : Nat}
    (h : ∀ f, s.firstHanded (sourcePort src) = some f → ¬ (frameKind f = 0x60 ∧ requestOperation f = some op))
    (serve : Source → List Byte → State → Reply) : takeRequest src op serve s = s := by
  unfold takeRequest
  split
  · rename_i f hf
    rw [if_neg (h f hf)]
  · rfl

/-- A message row serves the message that stands first, if it is of its kind. -/
theorem takeMessage_of {s : State} {p : PortId} {kind : Nat} {f : List Byte} (hf : s.firstHanded p = some f)
    (hk : frameKind f = kind) (serve : List Byte → State → State) :
    takeMessage p kind serve s = serve f (s.takeHanded p) := by
  unfold takeMessage
  rw [hf]
  simp only [hk, if_true]

/-- A message row changes nothing where no message of its kind stands first on its port (log 2). -/
theorem takeMessage_other {s : State} {p : PortId} {kind : Nat} (h : ∀ f, s.firstHanded p = some f → frameKind f ≠ kind)
    (serve : List Byte → State → State) : takeMessage p kind serve s = s := by
  unfold takeMessage
  split
  · rename_i f hf
    rw [if_neg (h f hf)]
  · rfl

end Sys2Proof.Laws
end

