-- ==== Sys2Proof/Laws/Labels.lean ====
section
/-! SUPPORT. What the operations of the Label Engine can do: each only moves items, labels and link records (`OnlyLabelsMoved`),
beside what its own lemma says. -/

namespace Sys2Proof.Laws

open Sys2Proof.Machine

/-! ### The relation -/

theorem moved_refl (s : State) : OnlyLabelsMoved s s := ⟨rfl, fun _ => rfl, rfl, fun _ _ => rfl⟩

theorem moved_trans {s t u : State} (h : OnlyLabelsMoved s t) (k : OnlyLabelsMoved t u) : OnlyLabelsMoved s u where
  rest := by
    have h1 := h.rest
    have h2 := k.rest
    rw [h1] at h2
    exact h2
  ports := fun p => by rw [k.ports p, h.ports p]
  bucket := by rw [k.bucket, h.bucket]
  counters := fun e he => by rw [k.counters e he, h.counters e he]

theorem moved_of_spoken {s t : State} (h : Spoken s t) : OnlyLabelsMoved s t where
  rest := by
    have h1 := h.rest
    rw [h1]
  ports := h.ports
  bucket := h.bucket
  counters := fun k hk => h.counters k (fun e => hk (by rw [e]; decide)) (fun e => hk (by rw [e]; decide))

theorem moved_raise (s : State) {k : EventKind} (hk : k ∈ labelKinds) (n : Nat) : OnlyLabelsMoved s (s.raise k n) where
  rest := rfl
  ports := fun _ => rfl
  bucket := rfl
  counters := fun j hj => by
    rw [counter_raise, if_neg]
    intro e
    exact hj (e ▸ hk)

/-- Counting an event of the label kinds. -/
theorem moved_count (s : State) {k : EventKind} (hk : k ∈ labelKinds) : OnlyLabelsMoved s (s.count k) :=
  moved_trans (moved_raise s hk 1) (moved_of_spoken (spoken_count s k))

theorem moved_setItems (s : State) (v : Table Item) : OnlyLabelsMoved s (s.setItems v) := ⟨rfl, fun _ => rfl, rfl, fun _ _ => rfl⟩

theorem moved_setLabels (s : State) (v : Table Label) : OnlyLabelsMoved s (s.setLabels v) := ⟨rfl, fun _ => rfl, rfl, fun _ _ => rfl⟩

theorem moved_setLinks (s : State) (v : PerLink LinkRecord) : OnlyLabelsMoved s (s.setLinks v) :=
  ⟨rfl, fun _ => rfl, rfl, fun _ _ => rfl⟩

theorem moved_putLabel (s : State) (i : Nat) (l : Label) : OnlyLabelsMoved s (s.putLabel i l) := moved_setLabels s _

theorem moved_putItem (s : State) (i : Nat) (it : Item) : OnlyLabelsMoved s (s.putItem i it) := moved_setItems s _

theorem moved_setLink (s : State) (l : LinkId) (v : LinkRecord) : OnlyLabelsMoved s (s.setLink l v) := moved_setLinks s _

theorem moved_foldl {β : Type} (f : State → β → State) (h : ∀ t x, OnlyLabelsMoved t (f t x)) (l : List β) (s : State) :
    OnlyLabelsMoved s (l.foldl f s) := by
  induction l generalizing s with
  | nil => exact moved_refl s
  | cons x l ih => exact moved_trans (h s x) (ih (f s x))

/-! ### Labels and their work -/

theorem moved_setLabelState (s : State) (i : Nat) (st : LabelState) : OnlyLabelsMoved s (s.setLabelState i st) := by
  unfold State.setLabelState
  split
  · exact moved_putLabel _ _ _
  · exact moved_refl s

theorem moved_refloor (s : State) (i : Nat) : OnlyLabelsMoved s (s.refloor i) := by
  unfold State.refloor
  split
  · exact moved_putItem _ _ _
  · exact moved_refl s

theorem moved_refloorFor (s : State) (l : Label) : OnlyLabelsMoved s (s.refloorFor l) := by
  unfold State.refloorFor
  split
  · exact moved_refloor _ _
  · exact moved_refl s

theorem moved_toWork (s : State) (i : Nat) (l : Label) (a : Nat) (b : Bool) : OnlyLabelsMoved s (s.toWork i l a b) := by
  unfold State.toWork
  split
  · exact moved_trans (moved_setLink _ _ _) (moved_putLabel _ _ _)
  · dsimp only
    split
    · exact moved_trans (moved_putLabel _ _ _) (moved_count _ (by decide))
    · exact moved_putLabel _ _ _

theorem moved_unsend (s : State) (i : Nat) (l : LinkId) : OnlyLabelsMoved s (s.unsend i l) := moved_setLink s _ _

theorem moved_unqueue (s : State) (i : Nat) (l : LinkId) : OnlyLabelsMoved s (s.unqueue i l) := moved_setLink s _ _

theorem moved_leaveWork (s : State) (i : Nat) (l : Label) : OnlyLabelsMoved s (s.leaveWork i l) := by
  unfold State.leaveWork
  split
  · exact moved_unqueue _ _ _
  · exact moved_unsend _ _ _
  all_goals exact moved_refl s

theorem moved_noticeLabel (s : State) (id : Nat) : OnlyLabelsMoved s (s.noticeLabel id) := by
  unfold State.noticeLabel
  split
  · exact moved_refl s
  · split
    · exact moved_toWork _ _ _ _ _
    · split
      · exact moved_toWork _ _ _ _ _
      · exact moved_refl s
    all_goals exact moved_refl s

/-- A price notice only moves labels (R66, R100). -/
theorem moved_priceNotice (s : State) (i : Nat) : OnlyLabelsMoved s (s.priceNotice i) := by
  unfold State.priceNotice
  split
  · exact moved_foldl _ moved_noticeLabel _ _
  · exact moved_refl s

theorem moved_detach (s : State) (i : Nat) (l : Label) (b : Bool) : OnlyLabelsMoved s (s.detach i l b) := by
  unfold State.detach
  dsimp only
  have h2 := moved_trans (moved_leaveWork s i l)
    (moved_putLabel (s.leaveWork i l) i { l with item := none, attempts := 0, state := .unassigned })
  split
  · exact h2
  · split
    · exact h2
    · split
      · exact moved_trans h2 (moved_putItem _ _ _)
      · exact moved_trans (moved_trans h2 (moved_putItem _ _ _)) (moved_refloor _ _)

theorem moved_detachRemoved (s : State) (id : Nat) : OnlyLabelsMoved s (s.detachRemoved id) := by
  unfold State.detachRemoved
  split
  · exact moved_detach _ _ _ _
  · exact moved_refl s

/-- Removing an item only moves items and labels (R65, R136). -/
theorem moved_removeItem (s : State) (k : Nat) (it : Item) : OnlyLabelsMoved s (s.removeItem k it) :=
  moved_trans (moved_foldl _ moved_detachRemoved _ _) (moved_setItems _ _)

/-- Setting an Active Price only moves the item and its labels (R62, R66). -/
theorem moved_setActive (s : State) (k : Nat) (it : Item) (price : Nat) (fl : ItemFlags) :
    OnlyLabelsMoved s (s.setActive k it price fl) := by
  unfold State.setActive
  dsimp only
  split
  · exact moved_putItem _ _ _
  · exact moved_trans (moved_putItem _ _ _) (moved_priceNotice _ _)

theorem moved_writeItem (s : State) (code price : Nat) (fl : ItemFlags) : OnlyLabelsMoved s (s.writeItem code price fl).1 := by
  unfold State.writeItem
  split
  · exact moved_setActive s _ _ _ _
  · split
    · dsimp only
      exact moved_setActive s _ _ _ _
    · exact moved_refl s

theorem moved_loadWrite (s : State) (e : List Byte) : OnlyLabelsMoved s (s.loadWrite e).1 := by
  unfold State.loadWrite
  split
  · exact moved_refl s
  · rename_i w _
    have h := moved_writeItem s w.1 w.2.1 w.2.2
    split
    · rename_i heq; rw [heq] at h; exact h
    · rename_i heq; rw [heq] at h; exact h

/-- The writes of a Load Part only move items and labels (R68). -/
theorem moved_loadWrites (es : List (List Byte)) (s : State) : OnlyLabelsMoved s (loadWrites es s).1 := by
  induction es generalizing s with
  | nil => exact moved_refl s
  | cons e es ih => exact moved_trans (moved_loadWrite s e) (ih _)

/-! ### Links -/

theorem moved_returnSent (s : State) (l : LinkId) : OnlyLabelsMoved s (s.returnSent l) := by
  unfold State.returnSent
  dsimp only
  refine moved_trans (moved_trans (moved_setLink _ _ _) (moved_foldl _ (fun t i => moved_setLabelState t i _) _ _))
    (moved_foldl _ (fun t i => moved_trans (moved_setLabelState t i _) (moved_count _ (by decide))) _ _)

theorem moved_moveLink (s : State) (l : LinkId) (st : LinkState) : OnlyLabelsMoved s (s.moveLink l st) := by
  unfold State.moveLink
  dsimp only
  split
  · exact moved_trans (moved_setLink _ _ _) (moved_returnSent _ _)
  · exact moved_setLink _ _ _

theorem moved_checkFault (s : State) (l : LinkId) : OnlyLabelsMoved s (s.checkFault l) := by
  unfold State.checkFault
  split
  · exact moved_trans (moved_moveLink _ _ _) (moved_count _ (by decide))
  · exact moved_refl s

theorem moved_enterSilent (s : State) (l : LinkId) : OnlyLabelsMoved s (s.enterSilent l) :=
  moved_trans (moved_trans (moved_moveLink _ _ _) (moved_setLink _ _ _)) (moved_checkFault _ _)

theorem moved_checkError (s : State) (l : LinkId) : OnlyLabelsMoved s (s.checkError l) :=
  moved_trans (moved_setLink _ _ _) (moved_checkFault _ _)

theorem moved_bringUp (s : State) (l : LinkId) : OnlyLabelsMoved s (s.bringUp l) := by
  unfold State.bringUp
  split
  · exact moved_enterSilent _ _
  · exact moved_refl s

theorem moved_bringUpIfPaced (s : State) (l : LinkId) : OnlyLabelsMoved s (s.bringUpIfPaced l) := by
  unfold State.bringUpIfPaced
  split
  · exact moved_bringUp _ _
  · exact moved_refl s

theorem moved_goOff (s : State) (l : LinkId) : OnlyLabelsMoved s (s.goOff l) := by
  unfold State.goOff
  split
  · exact moved_refl s
  · exact moved_moveLink _ _ _

theorem moved_silence (s : State) (l : LinkId) : OnlyLabelsMoved s (s.silence l) := by
  unfold State.silence
  split
  · exact moved_trans (moved_enterSilent _ _) (moved_count _ (by decide))
  · exact moved_refl s

/-! ### Superframes, reports and the Stale Scan -/

theorem moved_noContact (s : State) (i : Nat) (l : Label) : OnlyLabelsMoved s (s.noContact i l) := by
  unfold State.noContact
  dsimp only
  split
  · exact moved_trans (moved_trans (moved_unsend _ _ _) (moved_putLabel _ _ _)) (moved_count _ (by decide))
  · exact moved_trans (moved_unsend _ _ _) (moved_toWork _ _ _ _ _)

theorem moved_deadline (s : State) (i : Nat) : OnlyLabelsMoved s (s.deadline i) := by
  unfold State.deadline
  split
  · split
    · exact moved_noContact _ _ _
    · exact moved_refl s
  · exact moved_refl s

/-- Taking labels from a Work Queue moves labels alone (R114 step 4). -/
theorem takeLabels_eq (q : List Nat) (b : Nat) (s : State) : (takeLabels q b s).1 = { s with labels := (takeLabels q b s).1.labels } := by
  induction q generalizing b s with
  | nil => cases b <;> rfl
  | cons i q ih =>
    cases b with
    | zero => rfl
    | succ b =>
      unfold takeLabels
      split
      · exact ih _ _
      · split
        · rw [ih]; rfl
        · split
          · rw [ih]; rfl
          · dsimp only
            rw [ih]; rfl

theorem moved_takeLabels (q : List Nat) (b : Nat) (s : State) : OnlyLabelsMoved s (takeLabels q b s).1 := by
  induction q generalizing b s with
  | nil => cases b <;> exact moved_refl s
  | cons i q ih =>
    cases b with
    | zero => exact moved_refl s
    | succ b =>
      unfold takeLabels
      split
      · exact ih _ _
      · split
        · exact moved_trans (moved_putLabel _ _ _) (ih _ _)
        · split
          · exact moved_trans (moved_putLabel _ _ _) (ih _ _)
          · exact moved_trans (moved_putLabel _ _ _) (ih _ _)

theorem moved_send (s : State) (kind : Nat) (p : PortId) (dst : Station) (tag : Nat) (body : List Byte) :
    OnlyLabelsMoved s (s.send kind p dst tag body).1 := moved_of_spoken (spoken_send s kind p dst tag body)

theorem moved_labelUpdate (s : State) (l : LinkId) : OnlyLabelsMoved s (s.labelUpdate l) := by
  unfold State.labelUpdate
  dsimp only
  have h1 := moved_trans (moved_takeLabels (s.link l).queue s.settings.labels.slotBudget s) (moved_setLink
    (takeLabels (s.link l).queue s.settings.labels.slotBudget s).1 l
    { (takeLabels (s.link l).queue s.settings.labels.slotBudget s).1.link l with
      queue := (takeLabels (s.link l).queue s.settings.labels.slotBudget s).2.2
      sentOrder := ((takeLabels (s.link l).queue s.settings.labels.slotBudget s).1.link l).sentOrder ++
        (takeLabels (s.link l).queue s.settings.labels.slotBudget s).2.1 })
  split
  · exact h1
  · split
    · exact moved_trans h1 (moved_send _ _ _ _ _ _)
    · exact moved_trans (moved_trans (moved_trans h1 (moved_send _ _ _ _ _ _))
        (moved_foldl _ (fun t i => moved_setLabelState t i _) _ _)) (moved_setLink _ _ _)

/-- A superframe's work on one link only moves labels and link records, and says something (R114). -/
theorem moved_linkSuperframe (s : State) (l : LinkId) : OnlyLabelsMoved s (s.linkSuperframe l) := by
  unfold State.linkSuperframe
  split
  · exact moved_refl s
  · dsimp only
    have h1 := moved_trans (moved_silence s l) (moved_send (s.silence l) 0x20 (.b l) broadcast s.superframeTag
      (be 2 s.pacer.number ++ beMoment s.clock.now))
    split <;> split
    · exact moved_trans (moved_trans (moved_trans h1 (moved_setLink _ _ _)) (moved_foldl _ moved_deadline _ _))
        (moved_labelUpdate _ _)
    · exact moved_trans (moved_trans h1 (moved_setLink _ _ _)) (moved_foldl _ moved_deadline _ _)
    · exact moved_trans (moved_trans h1 (moved_foldl _ moved_deadline _ _)) (moved_labelUpdate _ _)
    · exact moved_trans h1 (moved_foldl _ moved_deadline _ _)

/-- A superframe start advances the numbers and pulses BEACON OUT; the rest is the links' work (R111, R114). -/
theorem moved_superframeStart (s : State) : OnlyLabelsMoved ((s.setPacer { s.pacer with
      count := (s.pacer.count + 1) % 4294967296
      number := nextNumber s.settings.labels.max s.pacer.number
      window := ((s.pacer.count + 1) % 4294967296, nextNumber s.settings.labels.max s.pacer.number)
        :: s.pacer.window.take 3 }).setBeaconPulses (s.beaconPulses + 1)) s.superframeStart :=
  moved_trans (moved_linkSuperframe _ _) (moved_linkSuperframe _ _)

theorem moved_reportEntry (s : State) (l : LinkId) (e : List Byte) : OnlyLabelsMoved s (s.reportEntry l e) := by
  have hlate : ∀ f r p, OnlyLabelsMoved s (s.lateEntry l f r p) := by
    intro f r p
    unfold State.lateEntry
    dsimp only
    have hc : OnlyLabelsMoved s (s.count .labelLate) := moved_count s (by decide)
    split
    · split
      · refine moved_trans hc ?_
        unfold State.lateShown
        dsimp only
        split
        · exact moved_trans (moved_trans (moved_putLabel _ _ _) (moved_refloorFor _ _)) (moved_toWork _ _ _ _ _)
        · exact moved_trans (moved_putLabel _ _ _) (moved_refloorFor _ _)
      · exact hc
    · exact hc
  unfold State.reportEntry
  dsimp only
  split
  · split
    · split
      · unfold State.shownEntry
        dsimp only
        split
        · exact moved_trans (moved_trans (moved_unsend _ _ _) (moved_putLabel _ _ _)) (moved_refloorFor _ _)
        · exact moved_trans (moved_trans (moved_trans (moved_unsend _ _ _) (moved_putLabel _ _ _)) (moved_refloorFor _ _))
            (moved_toWork _ _ _ _ _)
      · split
        · exact moved_noContact _ _ _
        · exact moved_trans (moved_trans (moved_unsend _ _ _) (moved_putLabel _ _ _)) (moved_count _ (by decide))
    · exact hlate _ _ _
  · exact hlate _ _ _

/-- A Label Report taken only moves labels, items and link records (R115). -/
theorem moved_takeLabelReport (l : LinkId) (f : List Byte) (s : State) : OnlyLabelsMoved s (State.takeLabelReport l f s) := by
  unfold State.takeLabelReport
  split
  · split
    · exact moved_foldl _ (fun t e => moved_reportEntry t l e) _ _
    · exact moved_checkError _ _
  · exact moved_refl s

theorem moved_takeStationStatus (l : LinkId) (f : List Byte) (s : State) : OnlyLabelsMoved s (State.takeStationStatus l f s) := by
  unfold State.takeStationStatus
  split
  · split
    · exact moved_setLink _ _ _
    · exact moved_checkError _ _
  · exact moved_refl s

theorem moved_staleScanStep (s : State) (l : LinkId) : OnlyLabelsMoved s (s.staleScanStep l) := by
  unfold State.staleScanStep
  split
  · dsimp only
    split
    · split
      · exact moved_trans (moved_toWork _ _ _ _ _) (moved_setLink _ _ _)
      · exact moved_setLink _ _ _
    · exact moved_setLink _ _ _
  · exact moved_refl s

/-! ### What is the same after label work -/

theorem moved_supplied {s t : State} (h : OnlyLabelsMoved s t) : t.supplied = s.supplied := by rw [h.rest]

theorem moved_resetHeld {s t : State} (h : OnlyLabelsMoved s t) : t.resetHeld = s.resetHeld := by rw [h.rest]

theorem moved_clock {s t : State} (h : OnlyLabelsMoved s t) : t.clock = s.clock := by rw [h.rest]

theorem moved_mode {s t : State} (h : OnlyLabelsMoved s t) : t.mode = s.mode := by rw [h.rest]

theorem moved_schedule {s t : State} (h : OnlyLabelsMoved s t) : t.schedule = s.schedule := by rw [h.rest]

theorem moved_settings {s t : State} (h : OnlyLabelsMoved s t) : t.settings = s.settings := by rw [h.rest]

theorem moved_addresses {s t : State} (h : OnlyLabelsMoved s t) : t.addresses = s.addresses := by rw [h.rest]

theorem moved_handed {s t : State} (h : OnlyLabelsMoved s t) : t.handed = s.handed := by rw [h.rest]

theorem moved_tills {s t : State} (h : OnlyLabelsMoved s t) : t.tills = s.tills := by rw [h.rest]

theorem moved_priceErrors {s t : State} (h : OnlyLabelsMoved s t) : t.priceErrors = s.priceErrors := by rw [h.rest]

theorem moved_load {s t : State} (h : OnlyLabelsMoved s t) : t.load = s.load := by rw [h.rest]

theorem moved_journal {s t : State} (h : OnlyLabelsMoved s t) : t.journal = s.journal := by rw [h.rest]

theorem moved_pacer {s t : State} (h : OnlyLabelsMoved s t) : t.pacer = s.pacer := by rw [h.rest]

theorem moved_batch {s t : State} (h : OnlyLabelsMoved s t) : t.batch = s.batch := by rw [h.rest]

theorem moved_lastVerdict {s t : State} (h : OnlyLabelsMoved s t) : t.lastVerdict = s.lastVerdict := by rw [h.rest]

theorem moved_session {s t : State} (h : OnlyLabelsMoved s t) : t.session = s.session := by rw [h.rest]

theorem moved_guests {s t : State} (h : OnlyLabelsMoved s t) : t.guests = s.guests := by rw [h.rest]

theorem moved_beaconPulses {s t : State} (h : OnlyLabelsMoved s t) : t.beaconPulses = s.beaconPulses := by rw [h.rest]

theorem moved_freeUsed {s t : State} (h : OnlyLabelsMoved s t) : t.freeUsed = s.freeUsed := by rw [h.rest]

theorem moved_pending {s t : State} (h : OnlyLabelsMoved s t) : t.pending = s.pending := by rw [h.rest]

theorem moved_supervision {s t : State} (h : OnlyLabelsMoved s t) : t.management.supervision = s.management.supervision := by
  rw [h.rest]

theorem moved_managementErrors {s t : State} (h : OnlyLabelsMoved s t) : t.management.messageErrors = s.management.messageErrors := by
  rw [h.rest]

theorem moved_causes {s t : State} (h : OnlyLabelsMoved s t) : t.management.causes = s.management.causes := by
  rw [h.rest]

theorem moved_restart {s t : State} (h : OnlyLabelsMoved s t) : t.management.restart = s.management.restart := by
  rw [h.rest]

theorem moved_image {s t : State} (h : OnlyLabelsMoved s t) : t.management.image = s.management.image := by
  rw [h.rest]

theorem moved_strap {s t : State} (h : OnlyLabelsMoved s t) : t.management.strap = s.management.strap := by
  rw [h.rest]

theorem moved_flash {s t : State} (h : OnlyLabelsMoved s t) : t.management.flash = s.management.flash := by
  rw [h.rest]

theorem moved_saving {s t : State} (h : OnlyLabelsMoved s t) : t.management.saving = s.management.saving := by
  rw [h.rest]

theorem moved_isUp {s t : State} (h : OnlyLabelsMoved s t) (p : PortId) : t.isUp p = s.isUp p := by
  unfold State.isUp
  rw [h.ports p]

theorem moved_loading {s t : State} (h : OnlyLabelsMoved s t) : t.loading = s.loading := by
  unfold State.loading
  rw [moved_image h]

end Sys2Proof.Laws
end

