-- ==== Sys2Proof/Laws/Links.lean ====
section
/-! SUPPORT. What a link's change of state does: its record, the labels that return or find no room, and the two counts
(R104, R107), one lemma for each function. -/

namespace Sys2Proof.Laws

open Sys2Proof.Machine

theorem link_setLink (s : State) (l l' : LinkId) (v : LinkRecord) :
    (s.setLink l v).link l' = if l' = l then v else s.link l' := by
  cases l <;> cases l' <;> rfl

theorem spoken_link {s t : State} (h : Spoken s t) (l : LinkId) : t.link l = s.link l := by
  unfold State.link; rw [spoken_links h]

/-! ### A fold that puts labels in a state -/

theorem labels_setLabelState (s : State) (i j : Nat) (st : LabelState) :
    (s.setLabelState i st).labels.get? j =
      if j = i then (s.labels.get? j).map (fun x => { x with state := st }) else s.labels.get? j := by
  unfold State.setLabelState
  split
  · rename_i x hx
    show (Table.put i _ s.labels).get? j = _
    rw [get?_put]
    split
    · rename_i h; subst h; rw [hx]; rfl
    · rfl
  · rename_i hx
    split
    · rename_i h; subst h; rw [hx]; rfl
    · rfl

theorem setLabelState_eq (s : State) (i : Nat) (st : LabelState) :
    s.setLabelState i st = s.setLabels (s.setLabelState i st).labels := by
  unfold State.setLabelState
  split <;> rfl

/-- Putting a list of labels in one state changes the labels listed and nothing else. -/
theorem setLabelStates_spec (st : LabelState) (is : List Nat) (s : State) :
    is.foldl (fun t i => t.setLabelState i st) s = s.setLabels (is.foldl (fun t i => t.setLabelState i st) s).labels ∧
    ∀ j, (is.foldl (fun t i => t.setLabelState i st) s).labels.get? j =
      if j ∈ is then (s.labels.get? j).map (fun x => { x with state := st }) else s.labels.get? j := by
  induction is generalizing s with
  | nil => exact ⟨rfl, fun j => by simp⟩
  | cons i is ih =>
    obtain ⟨h1, h2⟩ := ih (s.setLabelState i st)
    refine ⟨?_, fun j => ?_⟩
    · rw [List.foldl_cons, h1, setLabelState_eq s i st]; rfl
    · rw [List.foldl_cons, h2, labels_setLabelState]
      by_cases hi : j = i <;> by_cases hj : j ∈ is <;> simp [hi, hj, Option.map_map, Function.comp_def]

/-! ### LABEL-STALE for the labels without room -/

/-- One label made Stale and counted. -/
theorem staleCounted_spec (s : State) (i : Nat) :
    (∀ l, ((s.setLabelState i .stale).count .labelStale).link l = s.link l) ∧
    ((s.setLabelState i .stale).count .labelStale).items = s.items ∧
    ((s.setLabelState i .stale).count .labelStale).labels = (s.setLabelState i .stale).labels ∧
    (∀ k, k ≠ .cellDrop → k ≠ .queueDrop → ((s.setLabelState i .stale).count .labelStale).counter k =
      if k = .labelStale then min (s.counter k + 1) 65535 else s.counter k) := by
  have h := spoken_count (s.setLabelState i .stale) .labelStale
  have e := setLabelState_eq s i .stale
  refine ⟨fun l => ?_, ?_, ?_, fun k h1 h2 => ?_⟩
  · rw [spoken_link h l, e]; rfl
  · rw [spoken_items h, e]; rfl
  · rw [spoken_labels h]; rfl
  · rw [h.counters k h1 h2, counter_raise, e]
    split
    · rename_i hk; subst hk; rfl
    · rfl

theorem staleCountedAll_spec (is : List Nat) (s t : State)
    (ht : t = is.foldl (fun t i => (t.setLabelState i .stale).count .labelStale) s) :
    (∀ l, t.link l = s.link l) ∧ t.items = s.items ∧
    (∀ j, t.labels.get? j = if j ∈ is then (s.labels.get? j).map (fun x => { x with state := .stale }) else s.labels.get? j) ∧
    (∀ k, k ≠ .cellDrop → k ≠ .queueDrop → t.counter k =
      if k = .labelStale ∧ is ≠ [] then min (s.counter k + is.length) 65535 else s.counter k) := by
  induction is generalizing s with
  | nil => subst ht; exact ⟨fun _ => rfl, rfl, fun _ => by simp, fun _ _ _ => by simp⟩
  | cons i is ih =>
    obtain ⟨a1, a2, a3, a4⟩ := staleCounted_spec s i
    obtain ⟨b1, b2, b3, b4⟩ := ih _ ht
    refine ⟨fun l => by rw [b1, a1], by rw [b2, a2], fun j => ?_, fun k h1 h2 => ?_⟩
    · rw [b3, a3, labels_setLabelState]
      by_cases hi : j = i <;> by_cases hj : j ∈ is <;> simp [hi, hj, Option.map_map, Function.comp_def]
    · rw [b4 k h1 h2, a4 k h1 h2]
      by_cases hk : k = .labelStale <;> by_cases hi : is = [] <;> simp [hk, hi]; omega

/-! ### The links' own functions -/

/-- What a link that leaves Ready gives up: its Sent labels go to its queue's head as Queued, and those without room are Stale, with
LABEL-STALE counted for each (R104). -/
theorem returnSent_spec (s : State) (l : LinkId) :
    (∀ l', (s.returnSent l).link l' = if l' = l then (s.link l).yielded true else s.link l') ∧
    (s.returnSent l).items = s.items ∧
    (∀ j, (s.returnSent l).labels.get? j =
      if j ∈ (s.link l).overflow then (s.labels.get? j).map (fun x => { x with state := .stale })
      else if j ∈ (s.link l).returned then (s.labels.get? j).map (fun x => { x with state := .queued })
      else s.labels.get? j) ∧
    (∀ k, k ≠ .cellDrop → k ≠ .queueDrop → (s.returnSent l).counter k =
      if k = .labelStale ∧ (s.link l).overflow ≠ [] then min (s.counter k + (s.link l).overflow.length) 65535
      else s.counter k) := by
  let m := (s.link l).returned.foldl (fun t i => t.setLabelState i .queued) (s.setLink l ((s.link l).yielded true))
  have hq := setLabelStates_spec .queued (s.link l).returned (s.setLink l ((s.link l).yielded true))
  have q1 : m = (s.setLink l ((s.link l).yielded true)).setLabels m.labels := hq.1
  have q2 : ∀ j, m.labels.get? j = if j ∈ (s.link l).returned then (s.labels.get? j).map (fun x => { x with state := .queued })
      else s.labels.get? j := hq.2
  have q3 : ∀ l', m.link l' = if l' = l then (s.link l).yielded true else s.link l' := by
    intro l'; rw [q1, ← link_setLink]; rfl
  have q4 : m.items = s.items := by rw [q1]; rfl
  have q5 : ∀ k, m.counter k = s.counter k := fun k => by rw [q1]; rfl
  obtain ⟨t1, t2, t3, t4⟩ := staleCountedAll_spec (s.link l).overflow m (s.returnSent l) rfl
  refine ⟨fun l' => (t1 l').trans (q3 l'), t2.trans q4, fun j => (t3 j).trans ?_, fun k h1 h2 => ?_⟩
  · rw [q2]
    by_cases ho : j ∈ (s.link l).overflow <;> by_cases hr : j ∈ (s.link l).returned <;>
      simp [ho, hr, Option.map_map, Function.comp_def]
  · rw [t4 k h1 h2, q5]

/-- What a link's change of state does: its record takes the state, and one that leaves Ready gives up its Sent labels. -/
theorem moveLink_spec (s : State) (l : LinkId) (st : LinkState) (b : Bool)
    (hb : b = (decide ((s.link l).state = .ready) && decide (st ≠ .ready))) :
    (∀ l', (s.moveLink l st).link l' = if l' = l then { (s.link l).yielded b with state := st } else s.link l') ∧
    (s.moveLink l st).items = s.items ∧
    (∀ j, (s.moveLink l st).labels.get? j =
      if b = true ∧ j ∈ (s.link l).overflow then (s.labels.get? j).map (fun x => { x with state := .stale })
      else if b = true ∧ j ∈ (s.link l).returned then (s.labels.get? j).map (fun x => { x with state := .queued })
      else s.labels.get? j) ∧
    (∀ k, k ≠ .cellDrop → k ≠ .queueDrop → (s.moveLink l st).counter k =
      if k = .labelStale ∧ b = true ∧ (s.link l).overflow ≠ [] then min (s.counter k + (s.link l).overflow.length) 65535
      else s.counter k) := by
  unfold State.moveLink
  dsimp only
  by_cases h : (s.link l).state = .ready ∧ st ≠ .ready
  · have hb' : b = true := by rw [hb]; simp [h]
    subst hb'
    rw [if_pos h]
    obtain ⟨r1, r2, r3, r4⟩ := returnSent_spec (s.setLink l { s.link l with state := st }) l
    have e : (s.setLink l { s.link l with state := st }).link l = { s.link l with state := st } := by
      rw [link_setLink, if_pos rfl]
    rw [e] at r1 r3 r4
    refine ⟨fun l' => ?_, r2, fun j => ?_, fun k h1 h2 => ?_⟩
    · rw [r1, link_setLink]
      by_cases hl : l' = l
      · simp [hl]; rfl
      · simp [hl]
    · rw [r3]; simp [LinkRecord.overflow, LinkRecord.returned]; rfl
    · rw [r4 k h1 h2]; simp [LinkRecord.overflow]; rfl
  · have hb' : b = false := by
      rw [hb]; simp only [Bool.and_eq_false_iff, decide_eq_false_iff_not]
      by_cases g : (s.link l).state = .ready
      · exact Or.inr (fun hs => h ⟨g, hs⟩)
      · exact Or.inl g
    subst hb'
    rw [if_neg h]
    refine ⟨fun l' => link_setLink _ _ _ _, rfl, fun j => ?_, fun k _ _ => ?_⟩
    · simp; rfl
    · simp; rfl

/-- What the fault check does (R107). -/
theorem checkFault_spec (s : State) (l : LinkId) (b : Bool)
    (hb : b = decide (((s.link l).state = .silent ∨ (s.link l).state = .ready) ∧
      s.settings.labels.faultThreshold ≤ (s.link l).checkErrors)) (r : Bool) (hr : r = (b && decide ((s.link l).state = .ready))) :
    (∀ l', (s.checkFault l).link l' =
      if l' = l ∧ b = true then { (s.link l).yielded r with state := .faulted } else s.link l') ∧
    (s.checkFault l).items = s.items ∧
    (∀ j, (s.checkFault l).labels.get? j =
      if r = true ∧ j ∈ (s.link l).overflow then (s.labels.get? j).map (fun x => { x with state := .stale })
      else if r = true ∧ j ∈ (s.link l).returned then (s.labels.get? j).map (fun x => { x with state := .queued })
      else s.labels.get? j) ∧
    (∀ k, k ≠ .cellDrop → k ≠ .queueDrop → (s.checkFault l).counter k =
      if k = .linkFault ∧ b = true then min (s.counter k + 1) 65535
      else if k = .labelStale ∧ r = true ∧ (s.link l).overflow ≠ [] then min (s.counter k + (s.link l).overflow.length) 65535
      else s.counter k) := by
  unfold State.checkFault
  by_cases h : ((s.link l).state = .silent ∨ (s.link l).state = .ready) ∧ s.settings.labels.faultThreshold ≤ (s.link l).checkErrors
  · have hb' : b = true := by rw [hb]; exact decide_eq_true h
    subst hb'
    rw [if_pos h]
    obtain ⟨m1, m2, m3, m4⟩ := moveLink_spec s l .faulted r (by rw [hr]; simp)
    have c := spoken_count (s.moveLink l .faulted) .linkFault
    refine ⟨fun l' => ?_, ?_, fun j => ?_, fun k h1 h2 => ?_⟩
    · rw [spoken_link c, show ((s.moveLink l .faulted).raise .linkFault 1).link l' = (s.moveLink l .faulted).link l' from rfl, m1]
      simp
    · rw [spoken_items c]; exact m2
    · rw [spoken_labels c]; exact m3 j
    · rw [c.counters k h1 h2, counter_raise]
      by_cases hk : k = .linkFault
      · subst hk; rw [m4 _ (by decide) (by decide)]; simp
      · rw [if_neg hk, m4 k h1 h2]; simp [hk]
  · have hb' : b = false := by rw [hb]; exact decide_eq_false h
    subst hb'
    have hr' : r = false := by rw [hr]; rfl
    subst hr'
    rw [if_neg h]
    exact ⟨fun l' => by simp, rfl, fun j => by simp, fun k _ _ => by simp⟩

end Sys2Proof.Laws
end

