-- ==== Sys2Proof/Laws/Messages.lean ====
section
/-! SUPPORT. What reading a built branch message gives back: its fields, its body and its checks (R202, R203, R204). -/

namespace Sys2Proof.Machine

theorem length_be (n x : Nat) : (be n x).length = n := by
  induction n with
  | zero => rfl
  | succ n ih => simp [be, ih]

theorem length_beStation (a : Station) : (beStation a).length = 6 := length_be 6 _

theorem length_frameCheck (bs : List Byte) : (frameCheck bs).length = 4 := by simp [frameCheck, length_be]

theorem unbe_append (a b : List Byte) : unbe (a ++ b) = unbe a * 256 ^ b.length + unbe b := by
  have go : ∀ (b : List Byte) (acc : Nat),
      b.foldl (fun acc x => acc * 256 + x.toNat) acc = acc * 256 ^ b.length + b.foldl (fun acc x => acc * 256 + x.toNat) 0 := by
    intro b
    induction b with
    | nil => intro acc; simp
    | cons x b ih =>
      intro acc
      simp only [List.foldl_cons, List.length_cons]
      rw [ih (acc * 256 + x.toNat), ih (0 * 256 + x.toNat), pow_succ]
      ring
  simp only [unbe, List.foldl_append]
  exact go b _

/-- A number written in enough bytes reads back. -/
theorem unbe_be (n x : Nat) (h : x < 256 ^ n) : unbe (be n x) = x := by
  have key : ∀ n, unbe (be n x) = x % 256 ^ n := by
    intro n
    induction n with
    | zero => simp [be, unbe, Nat.mod_one]
    | succ n ih =>
      have hx : be (n + 1) x = [BitVec.ofNat 8 (x >>> (8 * n))] ++ be n x := rfl
      rw [hx, unbe_append, ih, length_be]
      have h1 : unbe [BitVec.ofNat 8 (x >>> (8 * n))] = x / 256 ^ n % 256 := by
        simp [unbe, Nat.shiftRight_eq_div_pow, pow_mul]
      rw [h1, pow_succ, Nat.mod_mul]
      ring
  rw [key, Nat.mod_eq_of_lt h]

/-- The field at an offset of bytes laid out as a part before it, the field and a part after. -/
theorem fieldAt_middle (a b c : List Byte) (off n : Nat) (ha : a.length = off) (hb : b.length = n) :
    fieldAt (a ++ (b ++ c)) off n = unbe b := by
  subst ha hb
  simp [fieldAt]

/-- A built message, its parts in a row. -/
theorem buildMessage_parts (kind : Nat) (dst src : Station) (tag : Nat) (body : List Byte) :
    ∃ tail : List Byte, tail.length = 36 - body.length + 4 ∧
      buildMessage kind dst src tag body = beStation dst ++ (beStation src ++ (be 2 0x9C41 ++ (be 1 1 ++ (be 1 kind ++
        (be 2 tag ++ (be 2 body.length ++ (body ++ (be 4 (checkValue body).toNat ++ tail)))))))) := by
  refine ⟨List.replicate (36 - body.length) 0#8 ++ frameCheck (messageHead kind dst src tag body), ?_, ?_⟩
  · simp [length_frameCheck]
  · simp [buildMessage, messageHead]

/-- A field of a built message: the bytes `b` at the offset `off`. -/
theorem fieldAt_buildMessage {kind : Nat} {dst src : Station} {tag : Nat} {body a b c : List Byte} {off n : Nat}
    (e : buildMessage kind dst src tag body = a ++ (b ++ c)) (ha : a.length = off) (hb : b.length = n) :
    fieldAt (buildMessage kind dst src tag body) off n = unbe b := by
  rw [e]
  exact fieldAt_middle a b c off n ha hb

theorem frameKind_buildMessage (kind : Nat) (dst src : Station) (tag : Nat) (body : List Byte) (h : kind < 256) :
    frameKind (buildMessage kind dst src tag body) = kind := by
  obtain ⟨tail, -, e⟩ := buildMessage_parts kind dst src tag body
  rw [frameKind, fieldAt_buildMessage (a := beStation dst ++ beStation src ++ be 2 0x9C41 ++ be 1 1) (b := be 1 kind)
    (by simpa [List.append_assoc] using e) (by simp [length_be, length_beStation]) (length_be 1 kind), unbe_be 1 kind (by simpa using h)]

theorem frameTag_buildMessage (kind : Nat) (dst src : Station) (tag : Nat) (body : List Byte) (h : tag < 65536) :
    frameTag (buildMessage kind dst src tag body) = tag := by
  obtain ⟨tail, -, e⟩ := buildMessage_parts kind dst src tag body
  rw [frameTag, fieldAt_buildMessage (a := beStation dst ++ beStation src ++ be 2 0x9C41 ++ be 1 1 ++ be 1 kind) (b := be 2 tag)
    (by simpa [List.append_assoc] using e) (by simp [length_be, length_beStation]) (length_be 2 tag), unbe_be 2 tag (by simpa using h)]

theorem frameBodyLength_buildMessage (kind : Nat) (dst src : Station) (tag : Nat) (body : List Byte) (h : body.length < 65536) :
    frameBodyLength (buildMessage kind dst src tag body) = body.length := by
  obtain ⟨tail, -, e⟩ := buildMessage_parts kind dst src tag body
  rw [frameBodyLength, fieldAt_buildMessage
    (a := beStation dst ++ beStation src ++ be 2 0x9C41 ++ be 1 1 ++ be 1 kind ++ be 2 tag) (b := be 2 body.length)
    (by simpa [List.append_assoc] using e) (by simp [length_be, length_beStation]) (length_be 2 body.length),
    unbe_be 2 body.length (by simpa using h)]

theorem frameBody_buildMessage (kind : Nat) (dst src : Station) (tag : Nat) (body : List Byte) (h : body.length < 65536) :
    frameBody (buildMessage kind dst src tag body) = body := by
  obtain ⟨tail, -, e⟩ := buildMessage_parts kind dst src tag body
  have e2 : buildMessage kind dst src tag body =
      (beStation dst ++ beStation src ++ be 2 0x9C41 ++ be 1 1 ++ be 1 kind ++ be 2 tag ++ be 2 body.length) ++
        (body ++ (be 4 (checkValue body).toNat ++ tail)) := by simpa [List.append_assoc] using e
  have h20 : (beStation dst ++ beStation src ++ be 2 0x9C41 ++ be 1 1 ++ be 1 kind ++ be 2 tag ++ be 2 body.length).length = 20 := by
    simp [length_be, length_beStation]
  rw [frameBody, frameBodyLength_buildMessage _ _ _ _ _ h, e2, List.drop_append_of_le_length (by omega), ← h20, List.drop_length]
  simp

theorem length_buildMessage (kind : Nat) (dst src : Station) (tag : Nat) (body : List Byte) :
    (buildMessage kind dst src tag body).length = 28 + body.length + (36 - body.length) := by
  obtain ⟨tail, ht, e⟩ := buildMessage_parts kind dst src tag body
  rw [e]
  simp [length_be, length_beStation, ht]
  omega

/-- A built message passes steps 2 and 3 of its taking (R203). -/
theorem envelopeOk_buildMessage (kind : Nat) (dst src : Station) (tag : Nat) (body : List Byte) (h : body.length < 65536) :
    envelopeOk (buildMessage kind dst src tag body) = true := by
  obtain ⟨tail, -, e⟩ := buildMessage_parts kind dst src tag body
  have hl := length_buildMessage kind dst src tag body
  have hc : fieldAt (buildMessage kind dst src tag body) (20 + body.length) 4 = (checkValue body).toNat := by
    rw [fieldAt_buildMessage
      (a := beStation dst ++ beStation src ++ be 2 0x9C41 ++ be 1 1 ++ be 1 kind ++ be 2 tag ++ be 2 body.length ++ body)
      (b := be 4 (checkValue body).toNat) (by simpa [List.append_assoc] using e) (by simp [length_be, length_beStation]; omega)
      (length_be 4 _), unbe_be 4 _ (by have := (checkValue body).isLt; omega)]
  simp only [envelopeOk, checkHolds, lengthAgrees, frameBody_buildMessage _ _ _ _ _ h, frameBodyLength_buildMessage _ _ _ _ _ h, hc, hl,
    decide_true, Bool.true_and, Bool.or_eq_true, Bool.and_eq_true, decide_eq_true_eq]
  omega

/-- A frame that ends in its own frame check passes it (R16). -/
theorem frameCheckHolds_append (head : List Byte) : frameCheckHolds (head ++ frameCheck head) = true := by
  simp [frameCheckHolds, length_frameCheck]

end Sys2Proof.Machine
end

