-- ==== Sys2Proof/Laws/PerInstr.lean ====
section
/-! SUPPORT. What holds of every command as syntax, one lemma for each constructor. -/

namespace Sys2Proof.Laws

open Sys2Proof.Machine

/-- The Control Request a row takes, if it takes one, has an operation number of 10.2. -/
def Operation.Statement (i : Instr) : Prop := ∀ src op, requestOf i = some (src, op) → op ∈ operationNumbers

theorem Operation.powerOn (straps : BitVec 4) : Operation.Statement (.powerOn straps) := by
  intro a op h; cases h

theorem Operation.resetAssert (torn : Option Slot) : Operation.Statement (.resetAssert torn) := by
  intro a op h; cases h

theorem Operation.pinReset (straps : BitVec 4) : Operation.Statement (.pinReset straps) := by
  intro a op h; cases h

theorem Operation.fullRestart (straps : BitVec 4) (torn : Option Slot) : Operation.Statement (.fullRestart straps torn) := by
  intro a op h; cases h

theorem Operation.softRestart (torn : Option Slot) : Operation.Statement (.softRestart torn) := by
  intro a op h; cases h

theorem Operation.configurationLoadEnd (answered : Bool) : Operation.Statement (.configurationLoadEnd answered) := by
  intro a op h; cases h

theorem Operation.saveEnd (written : Bool) : Operation.Statement (.saveEnd written) := by
  intro a op h; cases h

theorem Operation.millisecondAdvance : Operation.Statement (.millisecondAdvance) := by
  intro a op h; cases h

theorem Operation.storeOpen : Operation.Statement (.storeOpen) := by
  intro a op h; cases h

theorem Operation.storeClose : Operation.Statement (.storeClose) := by
  intro a op h; cases h

theorem Operation.nightStart : Operation.Statement (.nightStart) := by
  intro a op h; cases h

theorem Operation.nightEnd : Operation.Statement (.nightEnd) := by
  intro a op h; cases h

theorem Operation.cutover : Operation.Statement (.cutover) := by
  intro a op h; cases h

theorem Operation.linkUp (p : PortId) : Operation.Statement (.linkUp p) := by
  intro a op h; cases h

theorem Operation.linkDown (p : PortId) : Operation.Statement (.linkDown p) := by
  intro a op h; cases h

theorem Operation.beaconInEdge : Operation.Statement (.beaconInEdge) := by
  intro a op h; cases h

theorem Operation.frameReceived (p : PortId) (frame : List Byte) : Operation.Statement (.frameReceived p frame) := by
  intro a op h; cases h

theorem Operation.transmitStart (p : PortId) : Operation.Statement (.transmitStart p) := by
  intro a op h; cases h

theorem Operation.transmitComplete (p : PortId) : Operation.Statement (.transmitComplete p) := by
  intro a op h; cases h

theorem Operation.waitingBlockReoffer : Operation.Statement (.waitingBlockReoffer) := by
  intro a op h; cases h

theorem Operation.addressAgeExpiry (a : Station) : Operation.Statement (.addressAgeExpiry a) := by
  intro a op h; cases h

theorem Operation.signOn (n : Fin 16) : Operation.Statement (.signOn n) := by
  intro a op h; cases h

theorem Operation.signOff (n : Fin 16) : Operation.Statement (.signOff n) := by
  intro a op h; cases h

theorem Operation.priceQuery (n : Fin 16) : Operation.Statement (.priceQuery n) := by
  intro a op h; cases h

theorem Operation.saleRecord (n : Fin 16) : Operation.Statement (.saleRecord n) := by
  intro a op h; cases h

theorem Operation.recoveryScanStep (damaged : Option Slot) : Operation.Statement (.recoveryScanStep damaged) := by
  intro a op h; cases h

theorem Operation.labelReport (l : LinkId) : Operation.Statement (.labelReport l) := by
  intro a op h; cases h

theorem Operation.stationStatus (l : LinkId) : Operation.Statement (.stationStatus l) := by
  intro a op h; cases h

theorem Operation.pacerExpiry : Operation.Statement (.pacerExpiry) := by
  intro a op h; cases h

theorem Operation.linkSilence (l : LinkId) : Operation.Statement (.linkSilence l) := by
  intro a op h; cases h

theorem Operation.labelDeadline (index : Nat) : Operation.Statement (.labelDeadline index) := by
  intro a op h; cases h

theorem Operation.staleScanStep (l : LinkId) : Operation.Statement (.staleScanStep l) := by
  intro a op h; cases h

theorem Operation.transferOpen : Operation.Statement (.transferOpen) := by
  intro a op h; cases h

theorem Operation.transferAccept : Operation.Statement (.transferAccept) := by
  intro a op h; cases h

theorem Operation.blockAck : Operation.Statement (.blockAck) := by
  intro a op h; cases h

theorem Operation.batchOpen : Operation.Statement (.batchOpen) := by
  intro a op h; cases h

theorem Operation.batchPart : Operation.Statement (.batchPart) := by
  intro a op h; cases h

theorem Operation.batchClose : Operation.Statement (.batchClose) := by
  intro a op h; cases h

theorem Operation.endAck : Operation.Statement (.endAck) := by
  intro a op h; cases h

theorem Operation.blockTimerExpiry : Operation.Statement (.blockTimerExpiry) := by
  intro a op h; cases h

theorem Operation.cutoverSweepStep : Operation.Statement (.cutoverSweepStep) := by
  intro a op h; cases h

theorem Operation.withdrawSweepStep : Operation.Statement (.withdrawSweepStep) := by
  intro a op h; cases h

theorem Operation.closingSweepStep : Operation.Statement (.closingSweepStep) := by
  intro a op h; cases h

theorem Operation.pendingTimeout (slot : Nat) : Operation.Statement (.pendingTimeout slot) := by
  intro a op h; cases h

theorem Operation.guestExpiry (slot : Nat) : Operation.Statement (.guestExpiry slot) := by
  intro a op h; cases h

theorem Operation.holdUntilReached (slot : Nat) : Operation.Statement (.holdUntilReached slot) := by
  intro a op h; cases h

theorem Operation.loadTransactionLapse : Operation.Statement (.loadTransactionLapse) := by
  intro a op h; cases h

theorem Operation.supervisionTimerExpiry : Operation.Statement (.supervisionTimerExpiry) := by
  intro a op h; cases h

theorem Operation.owedNotices : Operation.Statement (.owedNotices) := by
  intro a op h; cases h

theorem Operation.readStatus (src : Source) : Operation.Statement (.readStatus src) := by
  intro a op h; cases h; decide

theorem Operation.readCounters (src : Source) : Operation.Statement (.readCounters src) := by
  intro a op h; cases h; decide

theorem Operation.clearEvents (src : Source) : Operation.Statement (.clearEvents src) := by
  intro a op h; cases h; decide

theorem Operation.clearResetCauses (src : Source) : Operation.Statement (.clearResetCauses src) := by
  intro a op h; cases h; decide

theorem Operation.setTime (src : Source) : Operation.Statement (.setTime src) := by
  intro a op h; cases h; decide

theorem Operation.setScheduleSlot (src : Source) : Operation.Statement (.setScheduleSlot src) := by
  intro a op h; cases h; decide

theorem Operation.setStoreMode (src : Source) : Operation.Statement (.setStoreMode src) := by
  intro a op h; cases h; decide

theorem Operation.itemWrite (src : Source) : Operation.Statement (.itemWrite src) := by
  intro a op h; cases h; decide

theorem Operation.itemRead (src : Source) : Operation.Statement (.itemRead src) := by
  intro a op h; cases h; decide

theorem Operation.itemDelete (src : Source) : Operation.Statement (.itemDelete src) := by
  intro a op h; cases h; decide

theorem Operation.priceChange (src : Source) : Operation.Statement (.priceChange src) := by
  intro a op h; cases h; decide

theorem Operation.loadBegin (src : Source) : Operation.Statement (.loadBegin src) := by
  intro a op h; cases h; decide

theorem Operation.loadPart (src : Source) : Operation.Statement (.loadPart src) := by
  intro a op h; cases h; decide

theorem Operation.loadEnd (src : Source) : Operation.Statement (.loadEnd src) := by
  intro a op h; cases h; decide

theorem Operation.labelAttach (src : Source) : Operation.Statement (.labelAttach src) := by
  intro a op h; cases h; decide

theorem Operation.labelDetach (src : Source) : Operation.Statement (.labelDetach src) := by
  intro a op h; cases h; decide

theorem Operation.labelRemove (src : Source) : Operation.Statement (.labelRemove src) := by
  intro a op h; cases h; decide

theorem Operation.labelResend (src : Source) : Operation.Statement (.labelResend src) := by
  intro a op h; cases h; decide

theorem Operation.labelRead (src : Source) : Operation.Statement (.labelRead src) := by
  intro a op h; cases h; decide

theorem Operation.linkClear (src : Source) : Operation.Statement (.linkClear src) := by
  intro a op h; cases h; decide

theorem Operation.beaconOnce (src : Source) : Operation.Statement (.beaconOnce src) := by
  intro a op h; cases h; decide

theorem Operation.guestAdmit (src : Source) : Operation.Statement (.guestAdmit src) := by
  intro a op h; cases h; decide

theorem Operation.guestEnd (src : Source) : Operation.Statement (.guestEnd src) := by
  intro a op h; cases h; decide

theorem Operation.guestBar (src : Source) : Operation.Statement (.guestBar src) := by
  intro a op h; cases h; decide

theorem Operation.guestUnbar (src : Source) : Operation.Statement (.guestUnbar src) := by
  intro a op h; cases h; decide

theorem Operation.guestRead (src : Source) : Operation.Statement (.guestRead src) := by
  intro a op h; cases h; decide

theorem Operation.zoneMatrixWrite (src : Source) : Operation.Statement (.zoneMatrixWrite src) := by
  intro a op h; cases h; decide

theorem Operation.addressFlush (src : Source) : Operation.Statement (.addressFlush src) := by
  intro a op h; cases h; decide

theorem Operation.queueSettingsWrite (src : Source) : Operation.Statement (.queueSettingsWrite src) := by
  intro a op h; cases h; decide

theorem Operation.nightLinkStart (src : Source) : Operation.Statement (.nightLinkStart src) := by
  intro a op h; cases h; decide

theorem Operation.nightLinkStop (src : Source) : Operation.Statement (.nightLinkStop src) := by
  intro a op h; cases h; decide

theorem Operation.batchWithdraw (src : Source) : Operation.Statement (.batchWithdraw src) := by
  intro a op h; cases h; decide

theorem Operation.cutoverNow (src : Source) : Operation.Statement (.cutoverNow src) := by
  intro a op h; cases h; decide

theorem Operation.heartbeat (src : Source) : Operation.Statement (.heartbeat src) := by
  intro a op h; cases h; decide

theorem Operation.saveConfiguration (src : Source) : Operation.Statement (.saveConfiguration src) := by
  intro a op h; cases h; decide

theorem Operation.restart (src : Source) : Operation.Statement (.restart src) := by
  intro a op h; cases h; decide

theorem Operation.lossOfSupply : Operation.Statement (.lossOfSupply) := by
  intro a op h; cases h

end Sys2Proof.Laws
end

