-- ==== Sys2Proof/Laws/Release.lean ====
section
/-! SUPPORT. What the release of copies can do (R33, R39, R40, R41): the pool, the release notice, and a pending restart whose
response ended; and what serving an unassigned request can do (log 3). -/

namespace Sys2Proof.Laws

open Sys2Proof.Machine

/-- `t` is `s` after copies have ended: frames released, a release notice given, a pending restart's response ended. -/
structure Released (s t : State) : Prop where
  rest : t = { s with
    pool := t.pool
    session := { s.session with releaseNotice := t.session.releaseNotice }
    management := { s.management with restart := t.management.restart } }
  bucket : t.pool.bucket = s.pool.bucket
  nextRef : t.pool.nextRef = s.pool.nextRef

theorem released_refl (s : State) : Released s s := ⟨rfl, rfl, rfl⟩

theorem released_trans {s t u : State} (h : Released s t) (k : Released t u) : Released s u where
  rest := by
    have h1 := h.rest
    have h2 := k.rest
    rw [h1] at h2
    exact h2
  bucket := by rw [k.bucket, h.bucket]
  nextRef := by rw [k.nextRef, h.nextRef]

theorem released_noticeRelease (s : State) : Released s s.noticeRelease := by
  unfold State.noticeRelease
  split
  · exact ⟨rfl, rfl, rfl⟩
  · exact released_refl s

theorem released_copyEnded (s : State) (ref : Nat) : Released s (s.copyEnded ref) := by
  unfold State.copyEnded
  split
  · split
    · exact ⟨rfl, rfl, rfl⟩
    · exact released_refl s
  · exact released_refl s

/-- The end of a copy only releases (R40). -/
theorem released_endCopy (s : State) (ref : Nat) : Released s (s.endCopy ref) := by
  unfold State.endCopy
  split
  · exact released_refl s
  · dsimp only
    rename_i f _
    have h : Released s (if f.copies ≤ 1 then
        (s.setPool { s.pool with
          frames := Table.del ref s.pool.frames
          inUse := s.pool.inUse.set f.cls (s.pool.inUse.get f.cls - cellsOf f.bytes.length) }).noticeRelease
      else s.setPool { s.pool with frames := Table.put ref { f with copies := f.copies - 1 } s.pool.frames }) := by
      split
      · refine released_trans ?_ (released_noticeRelease _)
        exact ⟨rfl, rfl, rfl⟩
      · exact ⟨rfl, rfl, rfl⟩
    split
    · exact released_trans h (released_copyEnded _ _)
    · exact h

theorem released_endCopies (refs : List Nat) (s : State) : Released s (refs.foldl State.endCopy s) := by
  induction refs generalizing s with
  | nil => exact released_refl s
  | cons r refs ih => exact released_trans (released_endCopy s r) (ih _)

/-- Discarding a port's queues empties the port and releases its copies (R41). -/
theorem released_discardQueues (s : State) (p : PortId) :
    Released (s.setPort p { s.port p with queues := emptyQueues, sending := none, drr := resetDrr }) (s.discardQueues p) := by
  unfold State.discardQueues
  dsimp only
  split
  · exact released_trans (released_endCopies _ _) (released_noticeRelease _)
  · exact released_endCopies _ _

theorem released_ports {s t : State} (h : Released s t) : t.ports = s.ports := by rw [h.rest]

end Sys2Proof.Laws
end

