-- ==== Sys2Proof/Tests/Slice0.lean ====
section
/-! SUPPORT. Tests: the smoke tests of well-formedness, a witness for the hypotheses of every statement that has any, and a few
steps worked out in the spec. -/

namespace Sys2Proof.Tests

set_option maxRecDepth 100000
set_option Elab.async false

open Sys2Proof.Machine

/-! ### Helpers -/

/-- A station that is neither a group nor the management address. -/
def station : Station := 0x020000000001#48

/-- The part in service: the image Good and every link Up. -/
def ready : State :=
  (State.reset.onManagement (fun m => { m with image := .good })).setPorts (Vector.replicate 24 { powerOnPort with linkUp := true })

/-- A branch message to the part. -/
def message (kind tag : Nat) (body : List Byte) : List Byte := buildMessage kind 0x02A7316C0FE0#48 station tag body

/-- A Control Request: operation, pad, parameters. -/
def ask (op : Nat) (ps : List Byte) : List Byte := message 0x60 7 ([BitVec.ofNat 8 op, 0#8] ++ ps)

/-- The part with a request of the controller waiting first. -/
def asked (op : Nat) (ps : List Byte) (s : State) : State := s.setHanded [⟨.ctl, ask op ps⟩]

/-- The part as the request's own rule finds it. -/
def served (op : Nat) (ps : List Byte) (s : State) : State := (asked op ps s).heard .controller (ask op ps)

/-- What such a request needs to reach its own rule with the parameters `ps`: CTL Up. -/
abbrev Passes (op : Nat) (ps : List Byte) (s : State) : Prop := s.isUp .ctl = true ∧ op < 256 ∧ ps.length < 1460

/-- So `served op ps s` is the part as its rule finds it, and `ps` its parameters. -/
theorem takes_of_passes {op : Nat} {ps : List Byte} {s : State} (h : Passes op ps s) :
    (asked op ps s).Takes .controller op (ask op ps) (served op ps s) ps := by
  have hb := frameBody_buildMessage 0x60 0x02A7316C0FE0#48 station 7 ([BitVec.ofNat 8 op, 0#8] ++ ps)
    (by simp only [List.length_append, List.length_cons, List.length_nil]; omega)
  have hk := frameKind_buildMessage 0x60 0x02A7316C0FE0#48 station 7 ([BitVec.ofNat 8 op, 0#8] ++ ps) (by omega)
  have he := envelopeOk_buildMessage 0x60 0x02A7316C0FE0#48 station 7 ([BitVec.ofNat 8 op, 0#8] ++ ps)
    (by simp only [List.length_append, List.length_cons, List.length_nil]; omega)
  refine ⟨⟨⟨h.1, by simp [asked, State.firstHanded, State.setHanded, sourcePort], hk, ?_, he⟩, by simp [State.barRefuses], rfl⟩, rfl, ?_⟩
  · have hop := h.2.1
    rw [requestOperation, ask, message, hb]
    simp [fieldAt, unbe]
    omega
  · rw [requestParameters, ask, message, hb]
    rfl

/-- The part with a message waiting first on a port. -/
def heard (p : PortId) (kind tag : Nat) (body : List Byte) (s : State) : State := s.setHanded [⟨p, message kind tag body⟩]

/-- What such a message needs to stand ready: its port Up. -/
abbrev Hears (p : PortId) (kind tag : Nat) (body : List Byte) (s : State) : Prop :=
  s.isUp p = true ∧ kind < 256 ∧ tag < 65536 ∧ body.length < 1460

/-- So it stands ready, with this tag and body. -/
theorem heard_of_hears {p : PortId} {kind tag : Nat} {body : List Byte} {s : State} (h : Hears p kind tag body s) :
    (heard p kind tag body s).Heard p kind (message kind tag body) ∧ frameTag (message kind tag body) = tag ∧
    frameBody (message kind tag body) = body := by
  obtain ⟨hup, hk, ht, hl⟩ := h
  exact ⟨⟨hup, by simp [heard, State.firstHanded, State.setHanded], frameKind_buildMessage _ _ _ _ _ hk,
    envelopeOk_buildMessage _ _ _ _ _ (by omega)⟩, frameTag_buildMessage _ _ _ _ _ ht, frameBody_buildMessage _ _ _ _ _ (by omega)⟩

/-- Bytes given as numbers. -/
def bytes (ns : List Nat) : List Byte := ns.map (BitVec.ofNat 8)

/-- An item of code 5 at the price 299. -/
def item : Item := ⟨5, some 299, ⟨false, false, false⟩, none, [9], some 280⟩

/-- A label of that item, Current. -/
def label : Label := ⟨9, .b0, some 0, some 280, 0, .current⟩

/-- The part with the item at index 0 and its label at index 0. -/
def stocked : State := (ready.setItems [(0, item)]).setLabels [(0, label)]

/-- The part with that label in a state. -/
def labelled (st : LabelState) : State := stocked.setLabels [(0, { label with state := st })]

/-- A batch of three changes in a state. -/
def batch (st : BatchState) : Batch := ⟨1, 3, 1, 0, 2, 0#32, none, st, 0⟩

/-- The part with that batch. -/
def batched (st : BatchState) : State := stocked.setBatch (some (batch st))

/-- The part with a session of type Night in a state. -/
def session (st : SessionState) : State :=
  ready.setSession { powerOnSession with
    type := some .night, state := st, openTag := 3, sessionId := some 77, openOffered := true, reportAsked := true }

/-- The part with a guest's entry in a state at slot 0. -/
def guested (st : GuestState) : State :=
  (ready.setMode .trading).setGuestTable [(0, ⟨station, some 0, st, ⟨0, 0⟩, 0, 0, 0, none, none, 0, 0, 0⟩)]

/-- The station's bytes. -/
def stationBytes : List Byte := beStation station

/-- A record of till 7 and its slot. -/
def sale (q transaction : Nat) : SaleRecord :=
  ⟨q, 7, transaction, ⟨0, 0⟩, false, .cash, 299, [⟨5, 1, 299, false, false, false, false⟩], 0, 0⟩

/-- The part with one record in the journal and till 7 Signed-On at T2. -/
def recorded : State :=
  (ready.setJournal { powerOnJournal with slots := [writtenSlot (sale 1 40)], nextSequence := some 2 }).setTills
    [(7, ⟨some 2, some 40, some 1⟩)]

/-- The part with Store Time at noon of day 500, valid. -/
def noon (s : State) : State := s.setClock ⟨⟨500, 43200000⟩, true⟩

/-! ### Well-formedness -/

theorem test_wf_refuses_slot_without_sequence : (Instr.softRestart (some ⟨sale 0 1, 0⟩)).wf = false := by decide
theorem test_wf_refuses_slot_with_sequence_beyond : (Instr.resetAssert (some ⟨sale 4294967296 1, 0⟩)).wf = false := by decide
theorem test_wf_refuses_slot_with_49_lines :
    (Instr.recoveryScanStep (some ⟨{ sale 1 1 with lines := List.replicate 49 ⟨5, 1, 299, false, false, false, false⟩ }, 0⟩)).wf
      = false := by decide
theorem test_wf_refuses_torn_slot_of_full_restart : (Instr.fullRestart 0 (some ⟨sale 0 1, 0⟩)).wf = false := by decide
theorem test_wf_refuses_group_station : (Instr.addressAgeExpiry broadcast).wf = false := by decide
theorem test_wf_refuses_label_index_8192 : (Instr.labelDeadline 8192).wf = false := by decide
theorem test_wf_refuses_guest_slot_1024 :
    (Instr.pendingTimeout 1024).wf = false ∧ (Instr.guestExpiry 1024).wf = false ∧ (Instr.holdUntilReached 1024).wf = false := by
  decide
theorem test_wf_takes_boundaries :
    (Instr.labelDeadline 8191).wf = true ∧ (Instr.pendingTimeout 1023).wf = true ∧
    (Instr.softRestart (some ⟨sale 4294967295 1, 0⟩)).wf = true := by decide

/-! ### Worked values -/

/-- R203: the check value over no bytes is the register's start. -/
theorem test_check_value_of_nothing : checkValue [] = 0xFFFFFFFF#32 := by decide

/-- The register of R203 over the nine digits, before any complement: the known value of this polynomial and start. -/
theorem test_check_value_of_digits : checkValue (bytes [49, 50, 51, 52, 53, 54, 55, 56, 57]) = 0x0376E6E7#32 := by decide +kernel

/-- The frame check of R16 over the nine digits, as IEEE 802.3 sends it (log 7). -/
theorem test_frame_check_of_digits :
    frameCheck (bytes [49, 50, 51, 52, 53, 54, 55, 56, 57]) = bytes [0x26, 0x39, 0xF4, 0xCB] := by decide +kernel

/-- A message the part builds passes its own checks (R202, R203, R204). -/
theorem test_built_message_is_good :
    envelopeOk (ask 1 [0]) = true ∧ (ask 1 [0]).length = 64 ∧ frameCheckHolds (ask 1 [0]) = true := by decide +kernel

/-- R205: records of 46 bytes, 32 of them, fit one segment of 1,494 bytes; records of 94 bytes are cut at 15. -/
theorem test_segments_cut :
    (cutFrom (List.replicate 32 (writtenSlot (sale 1 1))) []).map List.length = [32] ∧
    (cutFrom (List.replicate 32 ⟨{ sale 1 1 with lines := List.replicate 4 ⟨5, 1, 299, false, false, false, false⟩ }, 0⟩) []).map
      List.length = [15, 15, 2] := by decide +kernel

/-- R12's table of store hours. -/
theorem test_store_hours :
    hoursMode none none 0 = .trading ∧ hoursMode (some 1) none 0 = .trading ∧ hoursMode none (some 1) 5 = .closed ∧
    hoursMode (some 10) (some 20) 10 = .trading ∧ hoursMode (some 10) (some 20) 20 = .closed ∧
    hoursMode (some 20) (some 10) 9 = .trading ∧ hoursMode (some 20) (some 10) 10 = .closed := by decide

/-- R111: a Max of 0 keeps the Number 0; the Number runs from 1 to Max. -/
theorem test_next_number : nextNumber 0 5 = 0 ∧ nextNumber 4096 0 = 1 ∧ nextNumber 4096 4096 = 1 ∧ nextNumber 4096 1904 = 1905 := by
  decide

/-- The next state of an outcome, if it is one. -/
def nextOf (o : Host.Outcome State Fault Refusal) : Option State :=
  match o with
  | .next t => some t
  | .fault _ => none
  | .refused _ => none

/-- The state after a command. -/
def after (c : Instr) (s : State) : State := (nextOf (exec c s)).getD s

/-- A request taken with the image Good is answered: the response joins CTL's Control queue. -/
theorem test_clear_reset_causes_answers :
    (nextOf (exec (.clearResetCauses .controller) (asked 4 [] ready))).map
      (fun t => (t.management.causes, t.queue .ctl .control)) = some (⟨false, false, false, false⟩, [0]) := by decide +kernel

/-- The host's reading of words: none spells a command. -/
theorem test_no_word_spells_a_command (nbits w : Nat) : decodeTableWord nbits w = none := rfl

/-! ### Witnesses: for every statement with hypotheses, a state and operands that meet them, clause by clause -/

/-- The part as the message's own rule finds it. -/
def taken (p : PortId) (kind tag : Nat) (body : List Byte) (s : State) : State := (heard p kind tag body s).takeHanded p

/-- The part with its settings changed. -/
def tuned (g : Settings → Settings) (s : State) : State := s.setSettings (g s.settings)

/-- The part with its queue settings changed. -/
def tunedQueue (g : QueueSettings → QueueSettings) (s : State) : State := tuned (fun x => { x with queue := g x.queue }) s

/-- The part with its label settings changed. -/
def tunedLabels (g : LabelSettings → LabelSettings) (s : State) : State := tuned (fun x => { x with labels := g x.labels }) s

/-- The part with its management settings changed. -/
def tunedManagement (g : ManagementSettings → ManagementSettings) (s : State) : State :=
  tuned (fun x => { x with management := g x.management }) s

/-- A request of head office waiting first. -/
def phoned (op : Nat) (ps : List Byte) (s : State) : State := s.setHanded [⟨.up, ask op ps⟩]

/-- The part with its links Down. -/
def deaf : State := State.reset.onManagement (fun m => { m with image := .good })

/-- The part with its Remote Write Bar clear. -/
def unbarred : State := tunedManagement (fun m => { m with writeBar := false }) ready

/-- The part with the controller Absent. -/
def alone (s : State) : State := s.onManagement (fun m => { m with supervision := ⟨false, none, none⟩ })

/-- A Queue Settings Write of the Remote Write Bar alone. -/
def barWrite : List Byte := bytes [1, 0, 31, 0, 0, 0, 0, 0, 0, 0, 0, 0, 0, 1]

/-- A request whose check value does not hold. -/
def spoilt : List Byte := (ask 112 []).set 22 1#8

/-- One stored frame, its copy waiting first on T0. -/
def holding (c : OutClass) (o : Origin) (copies : Nat) : State :=
  (ready.setPool ⟨[(0, ⟨c, copies, o, ask 1 [0]⟩)], 1, resetPool.inUse.set c 1, 3072000⟩).setQueue (.t 0) c [0]

/-- A part whose label frames hold a number of cells. -/
def filled (n : Nat) : State := ready.setPool { resetPool with inUse := ⟨0, 0, n, 0, 0⟩ }

/-- A journal of four records, and a session that has sent blocks of one record each. -/
def draining (st : SessionState) (ns : List Nat) : State :=
  (ready.setJournal { powerOnJournal with
    slots := [1, 2, 3, 4].map (fun q => writtenSlot (sale q (39 + q))), nextSequence := some 5 }).setSession
    { (session st).session with
      window := some 4, drainMark := some 4, nextSend := some 5, nextBlock := 5
      outstanding := ns.map (fun n => ⟨n, n, 1, .offered, false⟩) }

/-- A slot due at noon of day 500. -/
def due : DailySlot := ⟨some 43200000, some 499⟩

/-- The part at noon with every slot due. -/
def dueAtNoon (s : State) : State := (noon s).setSchedule ⟨due, due, due, due, some ⟨500, 43200000⟩, false⟩

theorem test_hyps_StepRunsTheFrontCommand : ready.pending = [] := rfl

theorem test_hyps_StepsKeepTimeLegal :
    (noon ready).TimeLegal ∧ ∃ t, step ((noon ready).setPending [.millisecondAdvance]) = .next t := ⟨by decide +kernel, _, rfl⟩

theorem test_hyps_StepsKeepCountersLegal :
    ready.CountersLegal ∧ ∃ t, step (ready.setPending [.lossOfSupply]) = .next t := ⟨by decide +kernel, _, rfl⟩

theorem test_hyps_StepsKeepJournalLegal :
    recorded.JournalLegal ∧ ∃ t, step (recorded.setPending [.recoveryScanStep none]) = .next t := ⟨by decide +kernel, _, rfl⟩

theorem test_hyps_StepsKeepStationsApart :
    (guested (.pending 0)).TablesCanonical ∧ (guested (.pending 0)).StationsApart ∧ stocked.TablesCanonical ∧
    ∃ t, step ((guested (.pending 0)).setPending [.pendingTimeout 0]) = .next t := by
  refine ⟨?_, ?_, ?_, _, rfl⟩ <;> decide +kernel

theorem test_hyps_StepsKeepOneTillPerPort :
    recorded.OneTillPerPort ∧ ∃ t, step (recorded.setPending [.signOn 2]) = .next t := ⟨by decide +kernel, _, rfl⟩

theorem test_hyps_StepsKeepBlocksWithinWindow :
    (draining .draining [1, 2, 3, 4]).BlocksWithinWindow ∧ ∃ t, step ((draining .draining [1, 2, 3, 4]).setPending [.blockAck]) = .next t :=
  ⟨by decide +kernel, _, rfl⟩

theorem test_hyps_StepsKeepPoolLegal :
    (holding .till .generated 1).PoolLegal ∧ ∃ t, step ((holding .till .generated 1).setPending [.transmitStart (.t 0)]) = .next t :=
  ⟨by decide +kernel, _, rfl⟩

/-- A reserve of one cell that one held cell meets; the greatest reserves and cap, and none. -/
theorem test_hyps_StepsKeepPoolLegal_settings :
    (let s := tunedQueue (fun q => { q with tillReserve := 1 }) (holding .till .generated 1); s.PoolLegal ∧ s.heldCells .till = 1) ∧
    (let s := tunedQueue (fun q => { q with tillReserve := 2048, controlReserve := 512, guestCap := 8192 }) ready;
     s.ReservesInRange ∧ ∃ t, step (s.setPending [.transmitStart (.t 0)]) = .next t) ∧
    (State.reset.supplied = true ∧ State.reset.resetHeld = false ∧ State.reset.loading = true ∧
      ∃ t, exec (.configurationLoadEnd false) State.reset = .next t) ∧
    (tunedQueue (fun q => { q with tillReserve := 0, controlReserve := 0, guestCap := 0 }) ready).settings.queue.guestCap = 0 ∧
    (tunedQueue (fun q => { q with tillReserve := 0, controlReserve := 0, guestCap := 0 }) ready).settings.queue.tillReserve = 0 ∧
    (tunedQueue (fun q => { q with tillReserve := 0, controlReserve := 0, guestCap := 0 }) ready).settings.queue.controlReserve = 0 ∧
    (List.replicate 128 0#8 : List Byte) ≠ [] :=
  ⟨by decide +kernel, ⟨by decide +kernel, _, rfl⟩, ⟨rfl, rfl, rfl, _, rfl⟩, rfl, rfl, rfl, by decide⟩

theorem test_hyps_TimeValidFallsOnlyWithTheSupply :
    (∃ t, exec .millisecondAdvance (noon ready) = .next t) ∧ (noon ready).clock.valid = true ∧
    Instr.millisecondAdvance ≠ .lossOfSupply ∧ ∀ straps, Instr.millisecondAdvance ≠ .powerOn straps :=
  ⟨⟨_, rfl⟩, rfl, by decide, fun _ h => by cases h⟩

theorem test_hyps_JournalLosesRecordsOnlyToAcksAndScans :
    (∃ t, exec (.saleRecord 2) recorded = .next t) ∧ recorded.journal.slots ≠ [] ∧ Instr.saleRecord 2 ≠ .blockAck ∧
    Instr.saleRecord 2 ≠ .lossOfSupply ∧ (∀ d, Instr.saleRecord 2 ≠ .recoveryScanStep d) ∧
    ∀ straps, Instr.saleRecord 2 ≠ .powerOn straps :=
  ⟨⟨_, rfl⟩, by decide, by decide, by decide, fun _ h => (by cases h), fun _ h => by cases h⟩

/-- A frame of one cell: no target takes it; guests may hold no cell, or one; 1,280 cells are free, or 1,281. -/
theorem test_hyps_AdmissionFollowsItsSteps :
    1 = ((List.replicate 128 0#8 : List Byte).length + 127) / 128 ∧ [PortId.a 0].Nodup ∧ deaf.loading = false ∧
    ready.loading = false ∧ (filled 6911).loading = false ∧
    ([PortId.a 0].filter (fun q => deaf.isUp q &&
      decide ((deaf.queue q .guest).length < (deaf.settings.queue.limits[portIndex q]).get .guest)) = []) ∧
    ([PortId.a 0].filter (fun q => ready.isUp q &&
      decide ((ready.queue q .guest).length < (ready.settings.queue.limits[portIndex q]).get .guest)) = [.a 0]) ∧
    (let s := tunedQueue (fun q => { q with guestCap := 0 }) ready; s.settings.queue.guestCap < s.pool.inUse.guest + 1) ∧
    (let s := tunedQueue (fun q => { q with guestCap := 1 }) ready; s.pool.inUse.guest + 1 ≤ s.settings.queue.guestCap) ∧
    (filled 6912).freeCells < 1 + shortfallSum (filled 6912).settings.queue ((filled 6912).pool.inUse.set .label 6913) ∧
    1 + shortfallSum (filled 6911).settings.queue ((filled 6911).pool.inUse.set .label 6912) ≤ (filled 6911).freeCells := by
  decide +kernel

theorem test_hyps_ResponsesCarryTheRequest :
    ready.loading = false ∧ ready.takesCopy .control .ctl = true ∧ ready.roomFor .control (cellsOf (ask 1 [0]).length) = true := by
  decide +kernel

theorem test_hyps_RowsWithNothingToTakeChangeNothing :
    requestOf (.readStatus .controller) = some (.controller, 1) ∧ ready.firstHanded .ctl = none ∧ ready.firstHanded (.t 0) = none ∧
    ready.firstHanded (.b .b0) = none ∧ ready.firstHanded .up = none ∧
    (∀ n ∈ dailyNames, ready.dailyDue n = false) ∧ ready.cutoverDue = false ∧ ready.session.timer ≠ some 0 ∧
    ready.management.supervision.timer ≠ some 0 := by decide +kernel

theorem test_hyps_RemoteWriteBarRefusesHeadOfficeWrites :
    requestOf (.clearEvents .headOffice) = some (.headOffice, 3) ∧
    (phoned 3 [1, 0, 1] ready).Asked .headOffice 3 (ask 3 [1, 0, 1]) ∧ ready.settings.management.writeBar = true ∧
    ready.management.supervision.present = true ∧ 3 ∉ readOperations ∧
    (phoned 1 [0] ready).Asked .headOffice 1 (ask 1 [0]) ∧ 1 ∈ readOperations ∧
    sourceRefusal .headOffice 1 (requestParameters (ask 1 [0])) = none ∧
    (phoned 3 [1, 0, 1] unbarred).Asked .headOffice 3 (ask 3 [1, 0, 1]) ∧ unbarred.settings.management.writeBar = false ∧
    (phoned 3 [1, 0, 1] (alone ready)).Asked .headOffice 3 (ask 3 [1, 0, 1]) ∧
    (alone ready).management.supervision.present = false ∧
    (asked 3 [1, 0, 1] ready).Asked .controller 3 (ask 3 [1, 0, 1]) := by decide +kernel

theorem test_hyps_RequestsFailingStepsBAndThree :
    requestOf (.heartbeat .headOffice) = some (.headOffice, 112) ∧
    (let s := unbarred.setHanded [⟨.up, spoilt⟩]
     s.isUp .up = true ∧ s.firstHanded .up = some spoilt ∧ frameKind spoilt = 0x60 ∧
     requestOperation spoilt = some 112 ∧ envelopeOk spoilt = false) ∧
    (phoned 112 [] unbarred).Asked .headOffice 112 (ask 112 []) ∧ (phoned 112 [] unbarred).barRefuses .headOffice 112 = false ∧
    (phoned 82 barWrite unbarred).Asked .headOffice 82 (ask 82 barWrite) ∧
    (phoned 82 barWrite unbarred).barRefuses .headOffice 82 = false ∧
    barWrite.drop 2 ∈ settingEntries (requestParameters (ask 82 barWrite)) ∧
    fieldAt (barWrite.drop 2) 0 1 ∈ controllerOnlyCodes := by decide +kernel

/-- The part with a restart due, and perhaps a batch. -/
def restarting (k : RestartKind) (s : State) : State := s.onManagement (fun m => { m with restart := some ⟨k, none⟩ })

/-- The part with its image in a state. -/
def imaged (i : ImageState) (s : State) : State := s.onManagement (fun m => { m with image := i })

theorem test_hyps_PinResetAndFullRestartClearTheBlocks :
    ready.supplied = true ∧ ready.resetHeld = false ∧ (restarting .full ready).management.restart = some ⟨.full, none⟩ ∧
    (restarting .full ready).resetHeld = false ∧
    (imaged .loading ready).loading = true ∧ (recorded.journal.startScan).scan.isSome = true ∧
    ((ready.setMode .trading).resetAssert none).supplied = true ∧ ((ready.setMode .trading).resetAssert none).resetHeld = true := by
  decide +kernel

/-- R12, R182: a pin reset from Trading leaves the Closing Sweep running and the Closing Number raised once. -/
theorem test_pin_reset_starts_the_sweep :
    (nextOf (exec (.resetAssert none) (ready.setMode .trading))).bind (fun t => (nextOf (exec .closingSweepStep t)).bind
      (fun u => (nextOf (exec (.pinReset 0) u)).map (fun v => (u.guests.sweep, v.mode, v.guests.sweep, v.guests.closingNumber)))) =
    some (some 0, .closed, some 0, 1) := by decide +kernel

theorem test_hyps_SoftRestartKeepsTheTables :
    (restarting .soft (batched .receiving)).management.restart = some ⟨.soft, none⟩ ∧
    (restarting .soft (batched .receiving)).batch = some (batch .receiving) ∧ (batch .receiving).state = .receiving ∧
    (restarting .soft (batched .armed)).management.restart = some ⟨.soft, none⟩ ∧
    (∀ b ∈ (restarting .soft (batched .armed)).batch, b.state ≠ .receiving) ∧
    ((restarting .soft ready).isUp .ctl = true ∧ (restarting .soft ready).loading = false ∧
      (restarting .soft ready).management.supervision.present = true) ∧
    (restarting .soft (alone ready)).management.supervision.present = false ∧ (restarting .soft deaf).isUp .ctl = false ∧
    (∀ st ∈ [LabelState.sent 299 0, .queued, .current], Table.wf (labelled st).labels ∧
      (labelled st).labels.get? 0 = some { label with state := st }) ∧
    LabelState.queued.inWork = true ∧ (LabelState.sent 299 0).inWork = true ∧ LabelState.current.inWork = false := by
  decide +kernel

theorem test_hyps_LoadEndTakesTheImage :
    State.reset.supplied = true ∧ State.reset.resetHeld = false ∧ State.reset.loading = true ∧
    (false = (true && State.reset.imageHolds)) ∧
    (let s := State.atPowerOn 0#4 ⟨true, true, ⟨defaultSettings, defaultTimes⟩⟩
     s.supplied = true ∧ s.resetHeld = false ∧ s.loading = true ∧ true = (true && s.imageHolds)) := by decide +kernel

/-- R197: an image holds or not, by its mark, its check value, a setting out of range, two equal times, and a head-office station
that is the management station address. -/
theorem test_hyps_ImagesHold :
    (∀ c ∈ [(⟨defaultSettings, defaultTimes⟩ : ImageContents)], c.settings = defaultSettings ∧
      (∀ m ∈ [true, false], ∀ k ∈ [true, false], (State.atPowerOn 0#4 ⟨m, k, c⟩).imageHolds = (m && k))) ∧
    (State.atPowerOn 0#4 ⟨true, true, ⟨{ defaultSettings with highMark := 16385 }, defaultTimes⟩⟩).imageHolds = false ∧
    (State.atPowerOn 0#4 ⟨true, true, ⟨defaultSettings, ⟨some 1, some 1, none, none⟩⟩⟩).imageHolds = false ∧
    (State.atPowerOn 0#4 ⟨true, true, ⟨defaultSettings, ⟨some 0, some 86399999, none, none⟩⟩⟩).imageHolds = true ∧
    (State.atPowerOn 0#4 ⟨true, true, ⟨{ defaultSettings with
      management := { defaultSettings.management with headOffice := some 0x02A7316C0FE0#48 } }, defaultTimes⟩⟩).imageHolds = false ∧
    (1 < 2 ∧ hoursMode (some 1) (some 2) 1 = .trading ∧ hoursMode (some 2) (some 1) 1 = .closed) := by
  and_intros <;> decide +kernel

/-- The image loading at noon, Time Valid: STORE-OPEN due at that very millisecond, STORE-CLOSE one later, NIGHT-START absent; B0 Up
with check errors as given, its link Off. -/
def loadingAtNoon (errors : Nat) : State :=
  let s := (noon (State.atPowerOn 0#4 ⟨true, true, ⟨defaultSettings, ⟨some 43200000, some 43200001, none, some 0⟩⟩⟩)).setPort (.b .b0)
    { powerOnPort with linkUp := true }
  s.setLink .b0 ⟨.off, errors, 0, [], [], 0⟩

theorem test_hyps_LoadEndSettlesAndServes :
    (∀ n ∈ [15, 16], let s := loadingAtNoon n
      s.supplied = true ∧ s.resetHeld = false ∧ s.loading = true ∧ true = (true && s.imageHolds) ∧ s.clock.valid = true ∧
      s.clock.now.ms = 43200000 ∧ (s.link .b0).state = .off ∧ s.isUp (.b .b0) = true ∧ (s.link .b0).checkErrors = n ∧
      (s.link .b1).state = .off ∧ s.isUp (.b .b1) = false) ∧
    (∀ x, x = defaultSettings.labels → x.external = false ∧ x.period ≠ 0 ∧ x.faultThreshold = 16) := by
  refine ⟨by decide +kernel, ?_⟩
  rintro x rfl
  decide

/-- R11, R105, R107: what a load's end does there, and that an image not answered is Bad. -/
theorem test_load_end_settles_and_serves :
    ([(true, 15), (true, 16), (false, 16)].map (fun x => (nextOf (exec (.configurationLoadEnd x.1) (loadingAtNoon x.2))).map
      (fun t => (dailyNames.map (fun n => (t.schedule.daily n).firedDay), (t.link .b0).state, t.counter .linkFault, t.counter .configBad))))
      = [some ([some 500, none, none, some 500], .silent, 0, 0), some ([some 500, none, none, some 500], .faulted, 1, 0),
        some ([none, none, none, none], .faulted, 1, 1)] := by decide +kernel

/-- The part with no room in any queue. -/
def full : State := tunedQueue (fun q => { q with limits := q.limits.map (fun _ => ⟨0, 0, 0, 0, 0⟩) }) ready

theorem test_hyps_SaveAndRestartRequests :
    Passes 113 [] ready ∧ (served 113 [] ready).management.image = .good ∧
    Passes 113 [] (imaged .bad ready) ∧ (served 113 [] (imaged .bad ready)).management.image = .bad ∧
    Passes 113 [] (imaged .saving ready) ∧ (served 113 [] (imaged .saving ready)).management.image = .saving ∧
    (ready.onManagement (fun m => { m with saving := some ⟨defaultSettings, defaultTimes⟩ })).management.saving.isSome = true ∧
    Passes 114 [0#8] ready ∧ Passes 114 [1#8] ready ∧ fieldAt [0#8] 0 1 = 0 ∧ fieldAt [1#8] 0 1 = 1 ∧
    (served 114 [0#8] ready).management.restart = none ∧ (served 114 [1#8] ready).management.restart = none ∧
    (let u := served 114 [1#8] ready
     (State.respond { u with management := { u.management with restart := some ⟨.full, none⟩ } } .controller (ask 114 [1#8])
       114#8 .done []).2 = .stored 0) ∧
    (let u := served 114 [1#8] full
     (State.respond { u with management := { u.management with restart := some ⟨.full, none⟩ } } .controller (ask 114 [1#8])
       114#8 .done []).2 = .refused ∧ Passes 114 [1#8] full) ∧
    (Passes 114 [1#8] (restarting .soft ready) ∧ (served 114 [1#8] (restarting .soft ready)).management.restart.isSome = true) ∧
    (Passes 114 [2#8] ready ∧ 2 ≤ fieldAt [2#8] 0 1) := by
  and_intros <;> decide +kernel

theorem test_hyps_MillisecondAdvancesStoreTime :
    (ready.setClock ⟨⟨65535, 86399998⟩, true⟩).clock.now.ms < 86399999 ∧
    (ready.setClock ⟨⟨65534, 86399999⟩, true⟩).clock.now.day < 65535 ∧
    (ready.setClock ⟨⟨65535, 86399999⟩, true⟩).clock.now = ⟨65535, 86399999⟩ ∧
    (ready.onManagement (fun m => { m with supervision := ⟨true, some 1, none⟩ })).management.supervision.timer = some (0 + 1) ∧
    (let s := ready.setLoad ⟨some .controller, 1, 998, 0, 0, 0⟩
     s.load.owner = some .controller ∧ 0 < s.load.timer ∧ s.load.phase + 1 < 1000) ∧
    (let s := ready.setLoad ⟨some .controller, 1, 999, 0, 0, 0⟩
     s.load.owner = some .controller ∧ 0 < s.load.timer ∧ 1000 ≤ s.load.phase + 1) ∧
    (let s := (session .draining).setSession { (session .draining).session with timer := some 1 }
     s.session.timer = some (0 + 1) ∧ s.dailyDue .nightStart = false ∧ s.dailyDue .nightEnd = false ∧ s.openDue = false) ∧
    (∀ n ∈ [0, 1], let s := ready.setPacer { ready.pacer with timeLeft := n }
      s.pacerRuns = true ∧ s.loading = false ∧ s.pacer.oncePending = false ∧ s.pacer.timeLeft = n) ∧
    State.reset.loading = true ∧
    ((guested (.pending 1)).guests.table.get? 0).map (fun g => g.state) = some (.pending (0 + 1)) ∧
    (∀ st ∈ [GuestState.admitted none, .throttled (some ⟨500, 43200001⟩)],
      ((noon (guested st)).guests.table.get? 0).map (fun g => g.state) = some st) ∧
    Moment.le ⟨500, 43200001⟩ (noon ready).clock.now = false ∧
    ((guested .barred).guests.table.get? 0).map (fun g => g.state) = some .barred := by
  and_intros <;> decide +kernel

theorem test_hyps_DueSlotsFire :
    (dueAtNoon ready).dailyDue .storeOpen = true ∧
    (dueAtNoon (ready.setMode .trading)).dailyDue .storeClose = true ∧ (dueAtNoon (ready.setMode .trading)).mode = .trading ∧
    (dueAtNoon ready).dailyDue .storeClose = true ∧ (dueAtNoon ready).mode = .closed ∧
    (dueAtNoon (session .closing)).dailyDue .nightStart = true ∧ (dueAtNoon (session .closing)).session.state.active = true ∧
    (dueAtNoon (session .done)).dailyDue .nightStart = true ∧ (dueAtNoon (session .done)).session.state.active = false ∧
    (dueAtNoon (batched .cutting)).cutoverDue = true ∧ (∀ b ∈ (dueAtNoon (batched .cutting)).batch, b.state ≠ .armed) ∧
    (dueAtNoon (batched .armed)).cutoverDue = true ∧ (dueAtNoon (batched .armed)).batch = some (batch .armed) := by decide +kernel

/-- Each slot's row answers there, so that it fires once; the boundaries of being due. -/
theorem test_hyps_DueSlotsFireOnce :
    (∀ n ∈ dailyNames, (dueAtNoon ready).dailyDue n = true ∧
      (after .nightEnd ((dueAtNoon ready).markFired n)).dailyDue n = false) ∧
    (∃ t, exec .storeOpen (dueAtNoon ready) = .next t) ∧ (∃ t, exec .storeClose (dueAtNoon ready) = .next t) ∧
    (∃ t, exec .nightStart (dueAtNoon ready) = .next t) ∧ (∃ t, exec .nightEnd (dueAtNoon ready) = .next t) ∧
    (∃ t, exec .cutover (dueAtNoon (batched .armed)) = .next t) ∧ (dueAtNoon (batched .armed)).cutoverDue = true ∧
    (let s := (dueAtNoon ready).setClock ⟨⟨500, 43199999⟩, true⟩
     s.dailyDue .storeOpen = false ∧ s.cutoverDue = false) ∧
    (let s := (dueAtNoon ready).setClock ⟨⟨500, 43200000⟩, false⟩
     s.dailyDue .storeOpen = false ∧ s.cutoverDue = false) := by
  and_intros <;> first | decide +kernel | exact ⟨_, rfl⟩

theorem test_hyps_NightEndCutsTheSession :
    (dueAtNoon (session .failed)).dailyDue .nightEnd = true ∧ (dueAtNoon (session .failed)).session.state.active = false ∧
    (∀ st ∈ [SessionState.opening, .draining, .stopping, .receiving, .closing],
      (dueAtNoon (session st)).dailyDue .nightEnd = true ∧ (dueAtNoon (session st)).session.state.active = true) ∧
    ((session .receiving).setBatch (some (batch .receiving))).batch = some (batch .receiving) ∧
    (∀ b ∈ (dueAtNoon (session .receiving)).batch, b.state ≠ .receiving) := by decide +kernel

/-- Parameters of a Set Time: day 500 and a millisecond. -/
def timeParams (ms : Nat) : List Byte := be 2 500 ++ be 4 ms

theorem test_hyps_SetTimeLoadsTheTime :
    Passes 16 (timeParams 86399999) ready ∧ 6 ≤ (timeParams 86399999).length ∧ fieldAt (timeParams 86399999) 2 4 < 86400000 ∧
    (served 16 (timeParams 86399999) ready).clock.valid = false ∧
    Passes 16 (timeParams 43200000) (noon ready) ∧
    (served 16 (timeParams 43200000) (noon ready)).clock =
      ⟨⟨fieldAt (timeParams 43200000) 0 2, fieldAt (timeParams 43200000) 2 4⟩, true⟩ ∧
    (Passes 16 (timeParams 86400000) ready ∧ 86400000 ≤ fieldAt (timeParams 86400000) 2 4) ∧
    (let u := served 16 (timeParams 43199999) (dueAtNoon ready)
     Passes 16 (timeParams 43199999) (dueAtNoon ready) ∧ u.clock.valid = true ∧ (⟨500, 43199999⟩ : Moment) ≠ u.clock.now ∧
     Moment.le ⟨500, 43199999⟩ u.clock.now = true) ∧
    (∀ n ∈ dailyNames, ((dueAtNoon ready).schedule.daily n).time = some 43200000) := by
  and_intros <;> decide +kernel

/-- The part at noon with the daily slots and CUTOVER as given, its mode and session with them. -/
def scheduled (o c a z : Option Nat) (m : Option Moment) (s : State) : State :=
  (noon s).setSchedule ⟨⟨o, none⟩, ⟨c, none⟩, ⟨a, none⟩, ⟨z, none⟩, m, false⟩

/-- The kind of a forward set to a second after noon, and what is then due. -/
abbrev SetsOn (dues : List DailyName) (s : State) : Prop :=
  Passes 16 (timeParams 43201000) s ∧ (served 16 (timeParams 43201000) s).clock.valid = true ∧
  Moment.le ⟨500, 43201000⟩ (served 16 (timeParams 43201000) s).clock.now = false ∧
  ∀ n ∈ dailyNames, State.dailyDue { served 16 (timeParams 43201000) s with clock := ⟨⟨500, 43201000⟩, true⟩ } n =
    decide (n ∈ dues)

theorem test_hyps_SetTimeFiresForward :
    SetsOn [] (scheduled (some 43201001) none none none none ready) ∧
    SetsOn [.storeOpen] (scheduled (some 43200500) none none none none ready) ∧
    SetsOn [.storeClose] (scheduled none (some 43200500) none none none ready) ∧
    SetsOn [.storeOpen, .storeClose] (scheduled (some 43200500) (some 43200600) none none none ready) ∧
    SetsOn [.nightStart] (scheduled none none (some 43200500) none none (session .idle)) ∧
    (session .idle).session.state.active = false ∧
    SetsOn [.nightStart] (scheduled none none (some 43200500) none none (session .draining)) ∧
    (session .draining).session.state.active = true ∧
    SetsOn [.nightEnd] (scheduled none none none (some 43200500) none (session .draining)) ∧
    SetsOn [.nightEnd] (scheduled none none none (some 43200500) none (session .idle)) ∧
    SetsOn [.nightStart, .nightEnd] (scheduled none none (some 43200500) (some 43200600) none (session .idle)) ∧
    (let s := scheduled none none none none (some ⟨500, 43201000⟩) (batched .armed)
     SetsOn [] s ∧ s.loading = false ∧ s.batch = some (batch .armed) ∧ Moment.le ⟨500, 43201000⟩ ⟨500, 43201000⟩ = true) ∧
    (let s := scheduled none none none none (some ⟨500, 43201001⟩) (batched .armed)
     SetsOn [] s ∧ Moment.le ⟨500, 43201001⟩ ⟨500, 43201000⟩ = false ∧ ∀ b ∈ s.batch, b.state ≠ .receiving) := by
  and_intros <;> decide +kernel

/-- Parameters of a Set Schedule Slot of a daily slot. -/
def slotParams (n present ms : Nat) : List Byte := be 1 n ++ be 1 present ++ be 4 ms

/-- Parameters of a Set Schedule Slot of the CUTOVER slot. -/
def cutoverParams (present day ms : Nat) : List Byte := be 1 4 ++ be 1 present ++ be 2 day ++ be 4 ms

theorem test_hyps_ScheduleAndModeRequests :
    (∀ n ∈ [0, 1, 2, 3], Passes 17 (slotParams n 1 86399999) ready ∧ 6 ≤ (slotParams n 1 86399999).length ∧
      (dailyNames[fieldAt (slotParams n 1 86399999) 0 1]?).isSome = true ∧ fieldAt (slotParams n 1 86399999) 1 1 = 1 ∧
      fieldAt (slotParams n 1 86399999) 2 4 < 86400000 ∧ ∀ m ∈ dailyNames, (served 17 (slotParams n 1 86399999) ready).timeTaken m 86399999 = false) ∧
    (Passes 17 (slotParams 3 0 0) ready ∧ fieldAt (slotParams 3 0 0) 1 1 = 0 ∧ (dailyNames[fieldAt (slotParams 3 0 0) 0 1]?).isSome = true) ∧
    (Passes 17 (cutoverParams 0 0 0) (batched .armed) ∧ 8 ≤ (cutoverParams 0 0 0).length ∧ fieldAt (cutoverParams 0 0 0) 0 1 = 4 ∧
      fieldAt (cutoverParams 0 0 0) 1 1 = 0 ∧ (served 17 (cutoverParams 0 0 0) (batched .armed)).batch = some (batch .armed)) ∧
    (let p := cutoverParams 1 500 43200001
     Passes 17 p (noon (batched .armed)) ∧ fieldAt p 1 1 = 1 ∧ fieldAt p 4 4 < 86400000 ∧
     (served 17 p (noon (batched .armed))).batch = some (batch .armed) ∧
     Moment.le ⟨fieldAt p 2 2, fieldAt p 4 4⟩ (served 17 p (noon (batched .armed))).clock.now = false ∧
     (served 17 p (batched .armed)).clock.valid = false) ∧
    (let p := cutoverParams 1 500 43200000; let u := served 17 p (noon (batched .armed))
     Passes 17 p (noon (batched .armed)) ∧ u.batch = some (batch .armed) ∧ u.clock.valid = true ∧ u.loading = false ∧
     u.schedule.inhibit = false ∧ Moment.le ⟨fieldAt p 2 2, fieldAt p 4 4⟩ u.clock.now = true) ∧
    (∀ p ∈ [cutoverParams 0 0 0, cutoverParams 1 500 86399999],
      (∀ st ∈ [BatchState.receiving, .cutting, .withdrawing], Passes 17 p (batched st) ∧
        ∀ b ∈ (served 17 p (batched st)).batch, b.state ≠ .armed) ∧
      Passes 17 p ready ∧ (served 17 p ready).batch = none ∧ 8 ≤ p.length ∧ fieldAt p 0 1 = 4 ∧
      (fieldAt p 1 1 = 0 ∨ (fieldAt p 1 1 = 1 ∧ fieldAt p 4 4 < 86400000))) ∧
    (Passes 18 [0#8] ready ∧ 1 ≤ [0#8].length ∧ fieldAt [0#8] 0 1 = 0) ∧
    (Passes 18 [1#8] (ready.setMode .trading) ∧ fieldAt [1#8] 0 1 = 1 ∧ (served 18 [1#8] (ready.setMode .trading)).mode = .trading) ∧
    (Passes 18 [1#8] ready ∧ (served 18 [1#8] ready).mode = .closed) := by
  and_intros <;> decide +kernel

/-- The refusals with Range: no byte, a sixth slot, a short body, a presence byte of 2, a time out of range or held by another slot;
a mode of 2. -/
theorem test_hyps_SlotsAndModesOutOfRange :
    (∀ p ∈ [bytes [], bytes [5], bytes [3, 1], slotParams 0 2 0, slotParams 0 1 86400000, bytes [4, 0], cutoverParams 2 0 0,
        cutoverParams 1 0 86400000], Passes 17 p ready ∧
      (p.length < 1 ∨ 4 < fieldAt p 0 1 ∨ (fieldAt p 0 1 ≤ 3 ∧ (p.length < 6 ∨ 1 < fieldAt p 1 1)) ∨
        ((dailyNames[fieldAt p 0 1]?).isSome = true ∧ fieldAt p 1 1 = 1 ∧ 86400000 ≤ fieldAt p 2 4) ∨
        (fieldAt p 0 1 = 4 ∧ (p.length < 8 ∨ 1 < fieldAt p 1 1 ∨ (fieldAt p 1 1 = 1 ∧ 86400000 ≤ fieldAt p 4 4))))) ∧
    (let p := slotParams 0 1 43200000; let s := scheduled none (some 43200000) none none none ready
     Passes 17 p s ∧ dailyNames[fieldAt p 0 1]? = some .storeOpen ∧ fieldAt p 1 1 = 1 ∧ DailyName.storeClose ≠ .storeOpen ∧
     ((served 17 p s).schedule.daily .storeClose).time = some (fieldAt p 2 4)) ∧
    (∀ p ∈ [bytes [], bytes [2]], Passes 18 p ready ∧ (p.length < 1 ∨ 2 ≤ fieldAt p 0 1)) := by
  and_intros <;> decide +kernel

theorem test_hyps_LinksComeUpAndGoDown :
    deaf.supplied = true ∧ (∀ p ∈ allPorts, deaf.isUp p = false ∧ ready.isUp p = true) ∧
    (deaf.link .b0).state = .off ∧ deaf.superframesCanStart = true ∧
    (tunedLabels (fun x => { x with period := 0 }) deaf).superframesCanStart = false := by decide +kernel

/-- A station of another address. -/
def other : Station := 0x020000000002#48

/-- A whole frame that is no branch message. -/
def wire (dst src : Station) : List Byte :=
  let head := beStation dst ++ beStation src ++ be 2 0x0800 ++ List.replicate 46 0#8
  head ++ frameCheck head

/-- The part with one Link Up. -/
def only (p : PortId) : State := deaf.setPort p { powerOnPort with linkUp := true }

/-- The ports that a group frame arriving on a port is sent to. -/
abbrev Targets (p : PortId) (s : State) : List PortId :=
  allPorts.filter (fun q => decide (q ≠ p) && !isGuestPort q && s.isUp q && s.permits (portZone p) (portZone q))

theorem test_hyps_FramesAreJudgedInOrder :
    deaf.isUp .ctl = false ∧
    (imaged .loading ready).isUp .ctl = true ∧ (imaged .loading ready).loading = true ∧
    ready.isUp .ctl = true ∧ ready.loading = false ∧ (List.replicate 63 0#8 : List Byte).length < 64 ∧
    1536 < (List.replicate 1537 0#8 : List Byte).length ∧
    (let f := (wire other station).set 20 1#8
     f.length = 64 ∧ frameCheckHolds f = false) ∧
    (let f := wire other ready.managementAddress
     f.length = 64 ∧ frameCheckHolds f = true ∧ frameSource f = ready.managementAddress) ∧
    (∀ k ∈ [0x01, 0x03, 0x04, 0x06],
      let f := buildMessage k ready.managementAddress station 7 [0#8, 7#8]
      ready.isUp (.t 2) = true ∧ 64 ≤ f.length ∧ f.length ≤ 1536 ∧ frameCheckHolds f = true ∧
      frameSource f ≠ ready.managementAddress ∧ frameType f = 0x9C41 ∧ frameDestination f = ready.managementAddress ∧
      frameVersion f = 1 ∧ frameKind f = k) ∧
    (let f := wire other station
     let s := ready.setAddresses [(other.toNat, ⟨.ctl, 300, 0⟩)]
     s.isUp (.t 0) = true ∧ s.loading = false ∧ f.length = 64 ∧ frameCheckHolds f = true ∧
     frameSource f ≠ s.managementAddress ∧ frameType f ≠ 0x9C41 ∧ frameDestination f ≠ s.managementAddress ∧
     isGroup (frameDestination f) = false ∧ isGuestPort (.t 0) = false ∧
     (s.handleSource (.t 0) (frameSource f)).findAddress (frameDestination f) = some ⟨.ctl, 300, 0⟩ ∧
     s.permits (portZone (.t 0)) (portZone .ctl) = true ∧ s.isUp .ctl = true) ∧
    (let f := wire other station
     let s := ready.setMode .trading
     s.isUp (.a 3) = true ∧ s.loading = false ∧ f.length = 64 ∧ frameCheckHolds f = true ∧
     frameSource f ≠ s.managementAddress ∧ frameType f ≠ 0x9C41 ∧ frameDestination f ≠ s.managementAddress ∧
     isGroup (frameSource f) = false ∧ s.findAddress (frameSource f) = none ∧ s.findGuest (frameSource f) = none ∧
     s.mode = .trading ∧ s.guests.table.length < 1024) ∧
    (let f := wire broadcast station
     f.length = 64 ∧ frameCheckHolds f = true ∧ frameSource f ≠ ready.managementAddress ∧ frameType f ≠ 0x9C41 ∧
     frameDestination f ≠ ready.managementAddress ∧ isGroup (frameDestination f) = true ∧
     Targets (.t 0) ready ≠ [] ∧
     (Targets (.t 0) (only (.t 0)) = [] ∧ (only (.t 0)).isUp (.t 0) = true ∧ (only (.t 0)).permits .till .label = false) ∧
     (Targets .ctl (only .ctl) = [] ∧ (only .ctl).isUp .ctl = true ∧
       ∀ q ∈ allPorts, q ≠ .ctl → isGuestPort q = false → (only .ctl).permits .controller (portZone q) = true)) ∧
    (∀ st ∈ [GuestState.admitted none, .throttled none],
     let f := wire other station
     let s := guested st
     s.isUp (.a 0) = true ∧ s.loading = false ∧ isGroup (frameSource f) = false ∧ isGroup (frameDestination f) = false ∧
     s.findAddress (frameSource f) = none ∧ (s.findGuest (frameSource f)).map (fun e => e.2.state) = some st ∧
     s.findAddress (frameDestination f) = none ∧ s.findGuest (frameDestination f) = none ∧
     s.permits .guest .uplink = true ∧ s.isUp .up = true) := by
  and_intros <;> decide +kernel

/-- Each port takes the kinds of its zone; UP takes them of the head-office station, a request with Uplink Management alone. -/
theorem test_hyps_FramesArriveAsMessages :
    (∀ x ∈ [(PortId.t 0, 0x01), (.t 15, 0x03), (.t 2, 0x04), (.t 2, 0x06), (.b .b0, 0x22), (.b .b1, 0x23), (.ctl, 0x60)],
      ready.Arrives x.1 (message x.2 7 [0#8, 7#8]) ∧ ready.MessageTaken x.1 (message x.2 7 [0#8, 7#8])) ∧
    (∀ k ∈ [0x41, 0x43, 0x44, 0x45, 0x47, 0x4A, 0x60],
      let s := tunedManagement (fun m => { m with headOffice := some station, uplinkManagement := true }) ready
      s.Arrives .up (message k 7 []) ∧ s.MessageTaken .up (message k 7 [])) ∧
    (∀ x ∈ [(PortId.t 0, 0x22), (.b .b0, 0x01), (.ctl, 0x41), (.up, 0x41), (.a 0, 0x01)],
      ready.Arrives x.1 (message x.2 7 []) ∧ frameType (message x.2 7 []) = 0x9C41 ∧
      ¬ready.MessageTaken x.1 (message x.2 7 [])) ∧
    (let s := tunedManagement (fun m => { m with headOffice := some station, uplinkManagement := false }) ready
     s.Arrives .up (message 0x60 7 []) ∧ ¬s.MessageTaken .up (message 0x60 7 [])) ∧
    (let f := wire ready.managementAddress station
     ready.Arrives .ctl f ∧ frameDestination f = ready.managementAddress ∧ ¬ready.MessageTaken .ctl f) := by
  and_intros <;> decide +kernel

/-- The part with a station learned at a port. -/
def learned (q : PortId) : State := ready.setAddresses [(other.toNat, ⟨q, 300, 0⟩)]

/-- A unicast frame on a port that is no A port lies at a port of the learned station, or at UP. -/
abbrev FindsPort (p q : PortId) (s : State) : Prop :=
  s.ArrivesOrdinary p (wire other station) ∧ isGroup (frameDestination (wire other station)) = false ∧
  isGuestPort p = false ∧ (s.handleSource p (frameSource (wire other station))).LiesAt p (frameDestination (wire other station)) q

theorem test_hyps_FramesFindTheirPort :
    FindsPort (.t 0) (.t 0) (learned (.t 0)) ∧ FindsPort .up .up (learned .up) ∧
    (FindsPort (.t 0) (.t 1) (learned (.t 1)) ∧ (learned (.t 1)).permits .till .till = false) ∧
    (FindsPort (.t 0) .ctl ((learned .ctl).setPort .ctl powerOnPort) ∧ ready.permits .till .controller = true ∧
      ((learned .ctl).setPort .ctl powerOnPort).isUp .ctl = false) ∧
    (FindsPort (.t 0) .up ready ∧ ready.permits .till .uplink = true ∧ ready.isUp .up = true) ∧
    (ready.ArrivesOrdinary .up (wire other station) ∧
      (ready.handleSource .up station).LiesNowhere .up (frameDestination (wire other station))) ∧
    (let s := (guested (.admitted none)).clearGuestPorts 0
     s.ArrivesOrdinary .ctl (wire station other) ∧ (s.handleSource .ctl other).LiesNowhere .ctl station) := by
  and_intros <;> decide +kernel

/-- A frame towards the guest's station at A0, the guest's session in a state. -/
def findsGuest (p : PortId) (st : GuestState) (s : State) : Bool :=
  decide (s.ArrivesOrdinary p (wire station other)) && decide (isGroup (frameDestination (wire station other)) = false ∧
    isGuestPort p = false ∧ (s.handleSource p other).findAddress (frameDestination (wire station other)) = none ∧
    ((s.handleSource p other).findGuest (frameDestination (wire station other))).map (fun x => (x.2.port, x.2.state)) =
      some (some 0, st))

theorem test_hyps_FramesFindTheirGuest :
    findsGuest .ctl .barred (guested .barred) = true ∧
    (∀ st ∈ [GuestState.pending 300000, .expired ⟨0, 0⟩],
      (findsGuest .up st (guested st) && findsGuest .ctl st (guested st) && findsGuest .ctl st (alone (guested st)) &&
        (guested st).management.supervision.present && !(alone (guested st)).management.supervision.present) = true) ∧
    (∀ st ∈ [GuestState.admitted none, .throttled none],
      (findsGuest (.t 0) st (guested st) && !(guested st).permits .till .guest && findsGuest .up st (guested st) &&
        (guested st).permits .uplink .guest && (guested st).isUp (.a 0) &&
        findsGuest .up st ((guested st).setPort (.a 0) powerOnPort) &&
        !((guested st).setPort (.a 0) powerOnPort).isUp (.a 0)) = true) := by
  and_intros <;> decide +kernel

/-- A frame of the guest at A0 to a station, which the Guest Unit takes, the guest's session in a state. -/
def guestSends (dst : Station) (st : GuestState) (s : State) : Bool :=
  decide (s.ArrivesOrdinary (.a 0) (wire dst station)) && !isGroup (frameSource (wire dst station)) &&
  ((s.handleSource (.a 0) station).guestArrival station 0).2 &&
  decide ((((s.handleSource (.a 0) station).guestArrival station 0).1.findGuest station).map (fun x => x.2.state) = some st)

/-- The part as the Guest Unit leaves it when it has taken a frame of that guest. -/
def guestHeard (s : State) : State := ((s.handleSource (.a 0) station).guestArrival station 0).1

/-- A full table of guests, its entries in a state. -/
def crowd (st : GuestState) : State :=
  (ready.setMode .trading).setGuestTable ((List.range 1024).map (fun k =>
    (k, ⟨BitVec.ofNat 48 (512 + 4 * k), some 0, st, ⟨0, 0⟩, 0, 0, 0, none, none, 0, 0, 0⟩)))

/-- That table stands in its canonical form. -/
theorem test_crowd_wf (st : GuestState) : Table.wf (crowd st).guests.table :=
  List.pairwise_map.2 (List.pairwise_lt_range (n := 1024))

theorem test_hyps_GuestsArrive :
    (ready.ArrivesOrdinary (.a 0) (wire other broadcast) ∧ isGroup (frameSource (wire other broadcast)) = true) ∧
    (ready.mode = .closed ∧ ready.findGuest station = none ∧ ready.ArrivesOrdinary (.a 0) (wire other station) ∧
      ((ready.handleSource (.a 0) station).guestArrival station 0).2 = false) ∧
    ((crowd .barred).findGuest station = none ∧ (crowd .barred).mode = .trading ∧
      1024 ≤ (crowd .barred).guests.table.length ∧ (crowd .barred).guests.table.all (fun kv => kv.2.state = .barred)) ∧
    ((crowd (.expired ⟨0, 0⟩)).findGuest station = none ∧ 1024 ≤ (crowd (.expired ⟨0, 0⟩)).guests.table.length ∧
      ((crowd (.expired ⟨0, 0⟩)).guests.table.get? 0).map (fun g => g.state) = some (.expired ⟨0, 0⟩) ∧
      Moment.le ⟨0, 0⟩ ⟨0, 0⟩ = true) := by
  and_intros <;> decide +kernel

/-- The states of a session whose frames continue. -/
def heardStates : List GuestState := [.pending 300000, .expired ⟨0, 0⟩, .admitted none, .throttled none]

/-- To every station, to UP, to CTL, to its own port, to a till, and to UP while it is Down. -/
theorem test_hyps_FramesOfGuests :
    guestSends other .barred (guested .barred) = true ∧ isGroup (frameDestination (wire broadcast station)) = true ∧
    (∀ st ∈ heardStates,
      (guestSends broadcast st (guested st) && guestSends broadcast st (alone (guested st)) &&
        !(alone (guested st)).management.supervision.present &&
        guestSends broadcast st ((guested st).setPort .ctl powerOnPort) &&
        (guested st).permits .guest .controller && (guested st).isUp .ctl && !(guested st).permits .guest .till) = true) ∧
    (∀ st ∈ heardStates, (guestSends other st (guested st) &&
        decide ((guestHeard (guested st)).LiesAt (.a 0) other .up) &&
        guestSends other st ((guested st).setPort .up powerOnPort) &&
        decide ((guestHeard ((guested st).setPort .up powerOnPort)).LiesAt (.a 0) other .up)) = true) ∧
    (∀ st ∈ heardStates, ∀ q ∈ [PortId.ctl, .a 0, .t 0],
      (guestSends other st ((guested st).setAddresses [(other.toNat, ⟨q, 300, 0⟩)]) &&
        decide ((guestHeard ((guested st).setAddresses [(other.toNat, ⟨q, 300, 0⟩)])).LiesAt (.a 0) other q)) = true) := by
  and_intros <;> decide +kernel

/-- Two guests, the second at a port or at none. -/
def paired (st st2 : GuestState) (n : Option (Fin 4)) : State :=
  (guested st).setGuestTable [(0, ⟨station, some 0, st, ⟨0, 0⟩, 0, 0, 0, none, none, 0, 0, 0⟩),
    (1, ⟨other, n, st2, ⟨0, 0⟩, 0, 0, 0, none, none, 0, 0, 0⟩)]

theorem test_hyps_GuestToGuest :
    ∀ st ∈ heardStates, ∀ n ∈ [none, some (0 : Fin 4), some 1], ∀ st2 ∈ [GuestState.admitted none, .barred],
      (guestSends other st (paired st st2 n) && decide ((guestHeard (paired st st2 n)).findAddress other = none) &&
        decide (((guestHeard (paired st st2 n)).findGuest other).map (fun x => (x.2.port, x.2.state)) = some (n, st2))) =
        true := by
  decide +kernel

theorem test_hyps_FramesReachOnlyTheirTables : ∃ t, exec (.frameReceived (.t 0) (wire other station)) ready = .next t := ⟨_, rfl⟩

/-- One stored frame, its copy waiting first on UP, and a bucket. -/
def uplinked (rate bucket : Nat) : State :=
  tunedQueue (fun q => { q with shaperRate := rate })
    ((ready.setPool ⟨[(0, ⟨.control, 1, .generated, ask 1 [0]⟩)], 1, ⟨1, 0, 0, 0, 0⟩, bucket⟩).setQueue .up .control [0])

/-- One stored frame of 64 bytes waiting alone in a weighted class's queue, whose Turn it is, with its Deficit as given. -/
def turned (p : PortId) (c : OutClass) (granted : Bool) (deficit rate bucket : Nat) : State :=
  let s := (tunedQueue (fun q => { q with shaperRate := rate })
    (ready.setPool ⟨[(0, ⟨c, 1, .generated, ask 1 [0]⟩)], 1, resetPool.inUse.set c 1, bucket⟩)).setQueue p c [0]
  s.setPort p { s.port p with drr := ⟨decide (c = .guest), granted, deficit, deficit⟩ }

/-- R43: a frame that does not fit the Deficit of the class in its Turn passes the Turn; alone, it is begun in the next. -/
theorem test_round_robin_turns :
    (nextOf (exec (.transmitStart (.t 0)) (turned (.t 0) .guest true 63 0 0))).map (fun t => ((t.port (.t 0)).sending, (t.port (.t 0)).drr)) =
      some (some 0, ⟨true, true, 0, 6143⟩) := by decide +kernel

theorem test_hyps_TransmittersServeTheQueues :
    (∀ c ∈ allClasses, (holding c .generated 1).isUp (.t 0) = true ∧ ((holding c .generated 1).port (.t 0)).sending = none ∧
      (holding c .generated 1).queue (.t 0) c = [0]) ∧
    (holding .till .generated 1).queue (.t 0) .control = [] ∧ (holding .label .generated 1).queue (.t 0) .control = [] ∧
    (holding .label .generated 1).queue (.t 0) .till = [] ∧
    (∀ g, 1 ≤ (holding .bulk .generated 1).weight g) ∧ (holding .bulk .generated 1).frameLength 0 ≤ 1536 ∧
    (uplinked 8000 63999).isUp .up = true ∧ ((uplinked 8000 63999).port .up).sending = none ∧
    (uplinked 8000 63999).queue .up .control = [0] ∧ ((uplinked 8000 63999).pool.frames.get? 0).isSome = true ∧
    (uplinked 8000 63999).settings.queue.shaperRate ≠ 0 ∧
    (uplinked 8000 63999).pool.bucket < 1000 * (ask 1 [0]).length ∧
    1000 * (ask 1 [0]).length ≤ (uplinked 8000 64000).pool.bucket ∧ (uplinked 0 0).settings.queue.shaperRate = 0 ∧
    (let s := (holding .till .generated 1).setPort (.t 0) { powerOnPort with linkUp := true, sending := some 0 }
     (s.port (.t 0)).sending = some 0 ∧ (s.pool.frames.get? 0).map (fun fr => fr.copies) = some 1) ∧
    (let s := (holding .till .generated 2).setPort (.t 0) { powerOnPort with linkUp := true, sending := some 0 }
     (s.port (.t 0)).sending = some 0 ∧ (s.pool.frames.get? 0).map (fun fr => fr.copies) = some 2) ∧
    ((holding .control .generated 1).onManagement (fun m => { m with restart := some ⟨.soft, some 0⟩ })).management.restart =
      some ⟨.soft, some 0⟩ ∧
    (∀ c ∈ [OutClass.bulk, .guest], ∀ granted ∈ [true, false], ∀ deficit ∈ [63, 64],
      let s := turned .up c granted deficit 0 3072000
      s.isUp .up = true ∧ (s.port .up).sending = none ∧ s.queue .up .control = [] ∧ s.queue .up .till = [] ∧
      s.queue .up .label = [] ∧ s.queue .up c = [0] ∧ s.frameLength 0 = 64 ∧ (∀ g, 1 ≤ s.weight g) ∧
      (decide (s.frameLength 0 ≤ deficit + (if granted then 0 else 1536 * s.weight (decide (c = .guest)))) =
        (decide (deficit = 64) || !granted))) ∧
    ((turned .up .bulk false 0 8000 63999).pool.bucket < 1000 * 64 ∧ 1000 * 64 ≤ (turned .up .bulk false 0 8000 64000).pool.bucket ∧
      (turned .up .bulk false 0 8000 63999).settings.queue.shaperRate ≠ 0) ∧
    (let s := (turned (.t 0) .bulk true 9 0 0).setPort (.t 0) { (turned (.t 0) .bulk true 9 0 0).port (.t 0) with
       drr := ⟨true, true, 0, 9⟩ }
     s.queue (.t 0) .guest = [] ∧ s.queue (.t 0) .bulk ≠ []) := by
  and_intros <;> decide +kernel

/-- The part with an address held on CTL, its age over. -/
def aged : State := ready.setAddresses [(other.toNat, ⟨.ctl, 0, 0⟩)]

theorem test_hyps_AddressesAndZonesAreWritten :
    (isGroup broadcast = true ∧ isGroup other = false ∧ isGroup station = false) ∧
    (aged.addresses.get? other.toNat = some ⟨.ctl, 0, 0⟩ ∧ isGuestPort (.t 0) = false ∧ PortId.t 0 ≠ .up) ∧
    (aged.addresses.get? station.toNat = none ∧ aged.findGuest station = none ∧ aged.addresses.length < 2048) ∧
    ((guested .barred).addresses.get? station.toNat = none ∧ ((guested .barred).findGuest station).isSome = true) ∧
    (let s := ready.setAddresses ((List.range 2048).map (fun k => (k, ⟨.ctl, 300, 0⟩)))
     s.addresses.get? station.toNat = none ∧ s.findGuest station = none ∧ 2048 ≤ s.addresses.length) ∧
    (Passes 81 [0#8] aged ∧ 1 ≤ [0#8].length ∧ fieldAt [0#8] 0 1 = 0) ∧
    (Passes 81 [1#8, 23#8] aged ∧ fieldAt [1#8, 23#8] 0 1 = 1 ∧ allPorts[fieldAt [1#8, 23#8] 1 1]? = some (.b .b1)) ∧
    (let p := 2#8 :: beStation other
     Passes 81 p aged ∧ 7 ≤ p.length ∧ fieldAt p 0 1 = 2 ∧ stationAt p 1 = other ∧
     (served 81 p aged).addresses.get? other.toNat = some ⟨.ctl, 0, 0⟩) ∧
    (let p := bytes [1, 3, 1]
     Passes 80 p ready ∧ 3 ≤ p.length ∧ fieldAt p 2 1 ≤ 1 ∧ zoneOf? (fieldAt p 0 1) = some .controller ∧
     zoneOf? (fieldAt p 1 1) = some .guest ∧ fixedCell .controller .guest = false) ∧
    (let p := bytes [4, 3, 0]
     Passes 80 p ready ∧ 3 ≤ p.length ∧ fieldAt p 2 1 ≤ 1 ∧ zoneOf? (fieldAt p 0 1) = some .label ∧
     zoneOf? (fieldAt p 1 1) = some .guest ∧ fixedCell .label .guest = true) := by
  and_intros <;> decide +kernel

/-- The refusals of the zone write and of the flush. -/
theorem test_hyps_AddressesAndZonesAreRefused :
    (∀ p ∈ [bytes [1, 3], bytes [1, 3, 2], bytes [5, 3, 0], bytes [1, 5, 0]], Passes 80 p ready ∧
      (p.length < 3 ∨ 1 < fieldAt p 2 1 ∨ 5 ≤ fieldAt p 0 1 ∨ 5 ≤ fieldAt p 1 1)) ∧
    (∀ p ∈ [bytes [], bytes [3], bytes [1], bytes [1, 24], bytes [2, 0, 0, 0, 0, 0]], Passes 81 p ready ∧
      (p.length < 1 ∨ 2 < fieldAt p 0 1 ∨ (fieldAt p 0 1 = 1 ∧ (p.length < 2 ∨ 24 ≤ fieldAt p 1 1)) ∨
        (fieldAt p 0 1 = 2 ∧ p.length < 7))) ∧
    (let p := 2#8 :: beStation station
     Passes 81 p aged ∧ 7 ≤ p.length ∧ fieldAt p 0 1 = 2 ∧ (served 81 p aged).addresses.get? (stationAt p 1).toNat = none) := by
  and_intros <;> decide +kernel

/-- A till number as a body. -/
def tillBody (number : Nat) : List Byte := be 2 number

/-- The part with till 7 Signed-On at T2 and till 999 Absent. -/
def manned : State := stocked.setTills [(7, ⟨some 2, some 40, some 1⟩), (999, ⟨none, none, none⟩)]

/-- The Recovery Scan running. -/
def scanning : State := recorded.setJournal { recorded.journal with scan := some 0 }

/-- A full Till Table of Absent tills, their Last Journal Sequence as given, beside a journal of one record. -/
def crowded (last : Option Nat) : State := recorded.setTills ((List.range 32).map (fun k => (k + 1, ⟨none, last, last⟩)))

theorem test_hyps_SignOnPutsTheTillOnItsPort :
    (Hears (.t 3) 0x01 7 (tillBody 999) manned ∧ (tillBody 999).length = 2 ∧ fieldAt (tillBody 999) 0 2 = 999 ∧
      (taken (.t 3) 0x01 7 (tillBody 999) manned).journal.scan = none ∧
      (taken (.t 3) 0x01 7 (tillBody 999) manned).tills.get? 999 = some ⟨none, none, none⟩) ∧
    (Hears (.t 3) 0x01 7 (tillBody 1) manned ∧ fieldAt (tillBody 1) 0 2 = 1 ∧
      (taken (.t 3) 0x01 7 (tillBody 1) manned).tills.get? 1 = none ∧
      (taken (.t 3) 0x01 7 (tillBody 1) manned).tills.length < 32) ∧
    (Hears (.t 3) 0x01 7 (tillBody 7) manned ∧
      ((taken (.t 3) 0x01 7 (tillBody 7) manned).tills.get? 7).map (fun x => x.port) = some (some 2) ∧ (2 : Fin 16) ≠ 3) ∧
    (Hears (.t 2) 0x01 7 (tillBody 7) manned ∧
      (taken (.t 2) 0x01 7 (tillBody 7) manned).tills.get? 7 = some ⟨some 2, some 40, some 1⟩) ∧
    (∀ k ∈ [0, 1000], Hears (.t 3) 0x01 7 (tillBody k) manned ∧ fieldAt (tillBody k) 0 2 = k ∧ (k = 0 ∨ 999 < k)) ∧
    (Hears (.t 3) 0x01 7 (tillBody 900) (crowded none) ∧
      (taken (.t 3) 0x01 7 (tillBody 900) (crowded none)).tills.get? 900 = none ∧
      32 ≤ (taken (.t 3) 0x01 7 (tillBody 900) (crowded none)).tills.length ∧
      (taken (.t 3) 0x01 7 (tillBody 900) (crowded none)).tills.find?
        (fun kv => reclaimable (taken (.t 3) 0x01 7 (tillBody 900) (crowded none)).journal kv.2) = some (1, ⟨none, none, none⟩)) ∧
    (Hears (.t 3) 0x01 7 (tillBody 900) (crowded (some 1)) ∧
      ∀ kv ∈ (taken (.t 3) 0x01 7 (tillBody 900) (crowded (some 1))).tills,
        reclaimable (taken (.t 3) 0x01 7 (tillBody 900) (crowded (some 1))).journal kv.2 = false) ∧
    (Hears (.t 3) 0x01 7 (tillBody 7) scanning ∧
      (taken (.t 3) 0x01 7 (tillBody 7) scanning).journal.scan.isSome = true) := by
  and_intros <;> decide +kernel

theorem test_hyps_SignOnPutsTheTillOnItsPort_sign_off :
    (Hears (.t 2) 0x03 7 (tillBody 7) manned ∧ (tillBody 7).length = 2 ∧
      (taken (.t 2) 0x03 7 (tillBody 7) manned).tills.get? 7 = some ⟨some 2, some 40, some 1⟩) ∧
    (Hears (.t 2) 0x03 7 (tillBody 8) manned ∧
      (∀ x ∈ (taken (.t 2) 0x03 7 (tillBody 8) manned).tills.get? 8, x.port ≠ some 2)) ∧
    (Hears (.t 3) 0x03 7 (tillBody 7) manned ∧
      (∀ x ∈ (taken (.t 3) 0x03 7 (tillBody 7) manned).tills.get? 7, x.port ≠ some 3)) ∧
    (let s := manned.setHanded [⟨.t 2, (message 0x03 7 (tillBody 7)).set 22 1#8⟩]
     s.isUp (.t 2) = true ∧ s.firstHanded (.t 2) = some ((message 0x03 7 (tillBody 7)).set 22 1#8) ∧
     frameKind ((message 0x03 7 (tillBody 7)).set 22 1#8) = 0x03 ∧ envelopeOk ((message 0x03 7 (tillBody 7)).set 22 1#8) = false) ∧
    (∀ b ∈ [bytes [7], bytes [0, 7, 0]], Hears (.t 2) 0x03 7 b manned ∧ b.length ≠ 2) ∧
    (let s := deaf.setHanded [⟨.t 2, message 0x03 7 (tillBody 7)⟩]
     s.isUp (.t 2) = false ∧ s.firstHanded (.t 2) = some (message 0x03 7 (tillBody 7)) ∧
     frameKind (message 0x03 7 (tillBody 7)) = 0x03) := by
  and_intros <;> decide +kernel

/-- A Price Query of one code. -/
def queryBody (code : Nat) : List Byte := [1#8, 0#8] ++ be 6 code

/-- An item with an Active Price, a Shelf Floor and the Blocked flag as given. -/
def priced (code : Nat) (active floor : Option Nat) (blocked : Bool) : State :=
  ready.setItems [(0, ⟨code, active, ⟨blocked, false, true⟩, none, [], floor⟩)]

theorem test_hyps_PriceQueriesAreAnsweredAtTheCeiling :
    (Hears (.t 2) 0x04 7 (queryBody 5) manned ∧ queryCodes? (message 0x04 7 (queryBody 5)) = some [5] ∧
      ((taken (.t 2) 0x04 7 (queryBody 5) manned).tillOn 2).isSome = true) ∧
    (Hears (.t 3) 0x04 7 (queryBody 5) manned ∧ (taken (.t 3) 0x04 7 (queryBody 5) manned).tillOn 3 = none) ∧
    (∀ c ∈ [1, 9999999999999],
      ((priced c (some 299) none false).findItem c).isSome = true ∧ ((priced c (some 299) (some 299) false).findItem c).isSome = true ∧
      ((priced c (some 299) (some 298) false).findItem c).isSome = true ∧
      ((priced c (some 299) none true).findItem c).isSome = true ∧ ((priced c none none false).findItem c).isSome = true) := by
  and_intros <;> decide +kernel

/-- Parameters of an Item Write. -/
def writeParams (code price flags : Nat) : List Byte := be 6 code ++ be 4 price ++ be 1 flags

/-- A load open for head office. -/
def loadOpen (o : Source) (timer : Nat) : State := stocked.setLoad ⟨some o, timer, 0, 0, 0, 0⟩

theorem test_hyps_ItemRequestsChangeTheItem :
    (∀ p ∈ [writeParams 5 299 0, writeParams 5 9999999 7], Passes 32 p stocked ∧ 11 ≤ p.length ∧ codeOk (fieldAt p 0 6) = true ∧
      fieldAt p 6 4 ≤ 9999999 ∧ (itemFlagsOf? (fieldAt p 10 1)).isSome = true ∧ (served 32 p stocked).excludes .controller = false ∧
      (served 32 p stocked).findItem (fieldAt p 0 6) = some (0, item)) ∧
    (∀ p ∈ [writeParams 1 0 0, writeParams 9999999999999 0 0], Passes 32 p stocked ∧ codeOk (fieldAt p 0 6) = true ∧
      (served 32 p stocked).findItem (fieldAt p 0 6) = none ∧ (served 32 p stocked).items.length < 32768) ∧
    (Passes 32 (writeParams 5 0 0) (loadOpen .headOffice 30) ∧
      (served 32 (writeParams 5 0 0) (loadOpen .headOffice 30)).excludes .controller = true) ∧
    (let p := be 6 5 ++ be 4 300
     Passes 35 p (loadOpen .headOffice 30) ∧ (served 35 p (loadOpen .headOffice 30)).excludes .controller = true ∧
     (served 35 p (loadOpen .headOffice 30)).findItem (fieldAt p 0 6) = some (0, item)) ∧
    (Passes 34 (be 6 5) (loadOpen .headOffice 30) ∧ (served 34 (be 6 5) (loadOpen .headOffice 30)).excludes .controller = true ∧
     (served 34 (be 6 5) (loadOpen .headOffice 30)).findItem (fieldAt (be 6 5) 0 6) = some (0, item)) ∧
    (let p := be 6 5 ++ be 4 300
     Passes 35 p stocked ∧ 10 ≤ p.length ∧ codeOk (fieldAt p 0 6) = true ∧ fieldAt p 6 4 ≤ 9999999 ∧
     (served 35 p stocked).excludes .controller = false ∧ (served 35 p stocked).findItem (fieldAt p 0 6) = some (0, item) ∧
     item.active = some 299 ∧ item.labels = [9] ∧ (served 35 p stocked).findLabel 9 = some (0, label) ∧ label.state = .current ∧
     299 ≠ fieldAt p 6 4 ∧ (served 35 p stocked).queueRoom label.link = true) ∧
    (let p := be 6 5
     Passes 34 p stocked ∧ 6 ≤ p.length ∧ codeOk (fieldAt p 0 6) = true ∧ (served 34 p stocked).excludes .controller = false ∧
     (served 34 p stocked).findItem (fieldAt p 0 6) = some (0, item) ∧ (served 34 p stocked).TablesCanonical ∧
     (served 34 p stocked).findLabel 9 = some (0, label)) := by
  and_intros <;> decide +kernel

/-- The refusals: bodies too short, codes and prices out of range, flags out of their list, codes no item has, an item with a stage
alone. -/
theorem test_hyps_ItemRequestsAreRefused :
    (∀ p ∈ [bytes [], writeParams 0 1 0, writeParams 10000000000000 1 0, writeParams 5 10000000 0, writeParams 5 1 8],
      Passes 32 p stocked ∧ (p.length < 11 ∨ codeOk (fieldAt p 0 6) = false ∨ 9999999 < fieldAt p 6 4 ∨
        itemFlagsOf? (fieldAt p 10 1) = none)) ∧
    (∀ p ∈ [be 6 5, be 6 0 ++ be 4 1, be 6 5 ++ be 4 10000000], Passes 35 p stocked ∧
      (p.length < 10 ∨ codeOk (fieldAt p 0 6) = false ∨ 9999999 < fieldAt p 6 4)) ∧
    (let p := be 6 6 ++ be 4 1
     Passes 35 p stocked ∧ 10 ≤ p.length ∧ codeOk (fieldAt p 0 6) = true ∧ fieldAt p 6 4 ≤ 9999999 ∧
     (served 35 p stocked).findItem (fieldAt p 0 6) = none) ∧
    (let p := be 6 5 ++ be 4 1; let s := priced 5 none none false
     Passes 35 p s ∧ codeOk (fieldAt p 0 6) = true ∧ (served 35 p s).excludes .controller = false ∧
     ((served 35 p s).findItem (fieldAt p 0 6)).map (fun e => e.2.active) = some none) ∧
    (∀ p ∈ [be 5 0, be 6 0], Passes 34 p stocked ∧ (p.length < 6 ∨ codeOk (fieldAt p 0 6) = false)) ∧
    (Passes 34 (be 6 6) stocked ∧ codeOk (fieldAt (be 6 6) 0 6) = true ∧
      (served 34 (be 6 6) stocked).findItem (fieldAt (be 6 6) 0 6) = none) := by
  and_intros <;> decide +kernel

/-- A full Item Table, which has no item of a code. -/
theorem test_hyps_ItemWritesFindAFullTable :
    let s := ready.setItems (List.replicate 32768 (0, item)); let p := writeParams 6 1 0
    Passes 32 p s ∧ 11 ≤ p.length ∧ codeOk (fieldAt p 0 6) = true ∧ (itemFlagsOf? (fieldAt p 10 1)).isSome = true ∧
    32768 ≤ (served 32 p s).items.length ∧ (served 32 p s).load.owner = none ∧ ∀ kv ∈ (served 32 p s).items, kv.2.code ≠ 6 := by
  refine ⟨by decide +kernel, by decide, by decide, by decide,
    le_of_eq (List.length_replicate (n := 32768) (a := (0, item))).symm, rfl, ?_⟩
  intro kv h
  rw [List.eq_of_mem_replicate (show kv ∈ List.replicate 32768 (0, item) from h)]
  decide

theorem test_hyps_LoadsOpenRunAndEnd :
    (Passes 36 [] ready ∧ (served 36 [] ready).load.owner = none) ∧
    (Passes 36 [] (loadOpen .controller 30) ∧ (served 36 [] (loadOpen .controller 30)).load.owner = some .controller) ∧
    (∀ n ∈ [1, 16], let p := be 1 n ++ (List.replicate n (writeParams 5 300 0)).flatten
      Passes 37 p (loadOpen .controller 30) ∧ (served 37 p (loadOpen .controller 30)).load.owner = some .controller ∧
      1 ≤ fieldAt p 0 1 ∧ fieldAt p 0 1 ≤ 16 ∧ 1 + 11 * fieldAt p 0 1 ≤ p.length) ∧
    (Passes 37 [0#8] (loadOpen .headOffice 30) ∧ (served 37 [0#8] (loadOpen .headOffice 30)).load.owner = some .headOffice) ∧
    (Passes 38 [] (loadOpen .controller 30) ∧ (served 38 [] (loadOpen .controller 30)).load.owner = some .controller) ∧
    (Passes 38 [] (loadOpen .headOffice 30) ∧ (served 38 [] (loadOpen .headOffice 30)).load.owner = some .headOffice) ∧
    ((loadOpen .controller 0).load.owner = some .controller ∧ (loadOpen .controller 0).load.timer = 0) := by
  and_intros <;> decide +kernel

/-- The refusals of a Part and an End, and the three ways a write finds the table. -/
theorem test_hyps_LoadsAreRefused :
    (∀ p ∈ [bytes [], bytes [0], bytes [17], bytes [1]], Passes 37 p (loadOpen .controller 30) ∧
      (p.length < 1 ∨ ((served 37 p (loadOpen .controller 30)).load.owner = some .controller ∧
        (fieldAt p 0 1 = 0 ∨ 16 < fieldAt p 0 1 ∨ p.length < 1 + 11 * fieldAt p 0 1)))) ∧
    (Passes 37 [1#8] ready ∧ (served 37 [1#8] ready).load.owner = none) ∧
    (Passes 38 [] ready ∧ (served 38 [] ready).load.owner = none) ∧
    (stocked.findItem 5 = some (0, item) ∧ stocked.findItem 6 = none ∧ stocked.items.length < 32768 ∧
      stocked.items.get? 0 = some item) := by
  and_intros <;> decide +kernel

/-- Writes of a Load Part that its checks refuse, and writes they pass that find their item or room for one. -/
theorem test_hyps_LoadWritesAreJudged :
    (∀ e ∈ [writeParams 5 300 8, writeParams 0 300 0, writeParams 10000000000000 300 0, writeParams 5 10000000 0],
      itemFlagsOf? (fieldAt e 10 1) = none ∨ codeOk (fieldAt e 0 6) = false ∨ 9999999 < fieldAt e 6 4) ∧
    (∀ e ∈ [writeParams 5 0 0, writeParams 9999999999999 9999999 7, writeParams 1 300 0],
      (itemFlagsOf? (fieldAt e 10 1)).isSome = true ∧ codeOk (fieldAt e 0 6) = true ∧ fieldAt e 6 4 ≤ 9999999 ∧
      (stocked.writeItem (fieldAt e 0 6) (fieldAt e 6 4) ⟨false, false, false⟩).2.isSome = true) := by
  and_intros <;> decide +kernel

/-- R68, 11.2: the results Done, which carries the item's index, and Range, the codes those of R68's list. -/
theorem test_load_results :
    ([writeParams 5 300 0, writeParams 6 300 0, writeParams 0 300 0].map (fun e => (stocked.loadWrite e).2)) =
      [(true, bytes [0, 0, 0]), (true, bytes [0, 0, 1]), (false, bytes [1])] := by decide +kernel

/-- A full Item Table answers Full. -/
theorem test_load_result_full (s : State) (e : List Byte) (w : Nat × Nat × ItemFlags) (h : writeEntry? e = some w)
    (hn : s.findItem w.1 = none) (hf : 32768 ≤ s.items.length) : (s.loadWrite e).2 = (false, bytes [2]) := by
  unfold State.loadWrite
  rw [h]
  simp only [State.writeItem, hn, Nat.not_lt.2 hf, ite_false]
  decide

/-- A Sale Record of one line: till, transaction, tender Cash, total 299. -/
def saleBody (till transaction : Nat) : List Byte :=
  be 2 till ++ be 4 transaction ++ be 1 0 ++ be 1 1 ++ be 2 0 ++ be 4 299 ++ be 6 5 ++ be 4 1 ++ be 4 299 ++ be 2 0

/-- What a Sale Record offers, where it is well formed. -/
abbrev Offers (till transaction : Nat) (s : State) : Prop :=
  Hears (.t 2) 0x06 7 (saleBody till transaction) s ∧ (saleOffer (saleBody till transaction)).till = till ∧
  (saleOffer (saleBody till transaction)).transaction = transaction ∧ saleWellFormed (saleOffer (saleBody till transaction)) = true ∧
  tenderOf? (saleOffer (saleBody till transaction)).tender = some .cash ∧
  (taken (.t 2) 0x06 7 (saleBody till transaction) s).journal.scan = none ∧
  (taken (.t 2) 0x06 7 (saleBody till transaction) s).journal.slots.length < 16384

theorem test_hyps_SalesAreStoredInSequence :
    (∀ till ∈ [1, 999], let s := recorded.setTills [(till, ⟨some 2, none, none⟩)]
      Offers till 4294967295 s ∧ s.tills.get? till = some ⟨some 2, none, none⟩ ∧ s.journal.nextSequence = some 2 ∧
      s.journal.overflowMark = none) ∧
    (Offers 7 41 recorded ∧ recorded.tills.get? 7 = some ⟨some 2, some 40, some 1⟩ ∧ 40 < 41) ∧
    (let s := recorded.setJournal { recorded.journal with nextSequence := some 4294967295, overflowMark := some 0 }
     Offers 7 41 s ∧ s.journal.nextSequence = some 4294967295 ∧
     (s.tills.get? 7).all (fun x => x.lastTransaction.isSome) = true) ∧
    Offers 7 40 recorded := by
  and_intros <;> decide +kernel

/-- A line of item 5: its quantity, price and override. -/
def lineOf (quantity : Int) (price : Nat) (override : Bool) : Line := ⟨5, quantity, price, override, false, false, false⟩

/-- R80: no item, one without an Active Price, a Blocked one; a price at the Ceiling and above it, a return, an override. -/
theorem test_line_flags :
    (ready.flagLine (lineOf 1 299 false)).unknown = true ∧
    ((ready.setItems [(0, { item with active := none })]).flagLine (lineOf 1 299 false)).unknown = true ∧
    ((ready.setItems [(0, { item with flags := ⟨true, false, false⟩ })]).flagLine (lineOf 1 299 false)).blocked = true ∧
    ([lineOf 1 280 false, lineOf 1 281 false, lineOf (-1) 281 false, lineOf 1 281 true].map
      (fun l => (stocked.flagLine l).overcharge)) = [false, true, false, false] := by
  and_intros <;> decide +kernel

/-- The part Trading, one record held, the High Mark as given. -/
def marked (mark : Nat) : State := tuned (fun x => { x with highMark := mark }) (recorded.setMode .trading)

/-- The High Mark is reached from below, or was reached before, or lies above; the Trickle session starts or not. -/
theorem test_hyps_SalesReachTheHighMark :
    (∀ n ∈ [1, 2, 3], let s := marked n
      Offers 7 41 s ∧ s.settings.highMark = n ∧ s.journal.slots.length = 1 ∧ s.settings.management.trickle = true ∧
      s.mode = .trading ∧ s.session.state.active = false) ∧
    (Offers 7 41 (tunedManagement (fun m => { m with trickle := false }) (marked 2)) ∧
      (tunedManagement (fun m => { m with trickle := false }) (marked 2)).settings.management.trickle = false) ∧
    (Offers 7 41 ((marked 2).setMode .closed) ∧ ((marked 2).setMode .closed).mode = .closed) ∧
    (Offers 7 41 ((marked 2).setSession (session .receiving).session) ∧
      ((marked 2).setSession (session .receiving).session).session.state.active = true) := by
  and_intros <;> decide +kernel

/-- R83, R144: what those stores leave of JOURNAL-HIGH and of the session. -/
theorem test_high_mark :
    ([1, 2, 3].map (fun n => (nextOf (exec (.saleRecord 2) (heard (.t 2) 0x06 7 (saleBody 7 41) (marked n)))).map
      (fun t => (t.counter .journalHigh, t.session.type, t.session.state)))) =
      [some (0, some .trickle, .opening), some (1, some .trickle, .opening), some (0, none, .idle)] := by decide +kernel

/-- The part with a full journal. -/
def fullJournal : State :=
  recorded.setJournal { recorded.journal with slots := List.replicate 16384 (writtenSlot (sale 1 40)), nextSequence := some 16385 }

theorem test_hyps_SalesAreRefusedAndHeld :
    (Hears (.t 2) 0x06 7 (saleBody 7 41) scanning ∧ scanning.journal.scan.isSome = true) ∧
    (Hears (.t 3) 0x06 7 (saleBody 7 41) recorded ∧ recorded.journal.scan = none ∧
      (recorded.tills.get? 7).map (fun x => x.port) = some (some 2) ∧ (2 : Fin 16) ≠ 3 ∧ recorded.tills.get? 8 = none) ∧
    (∀ k ∈ [0, 1000], let s := recorded.setTills [(k, ⟨some 2, none, none⟩)]
      Hears (.t 2) 0x06 7 (saleBody k 41) s ∧ (saleOffer (saleBody k 41)).till = k ∧ (k = 0 ∨ 999 < k)) ∧
    (Hears (.t 2) 0x06 7 (saleBody 7 0) recorded ∧ recorded.tills.get? 7 = some ⟨some 2, some 40, some 1⟩ ∧
      (saleOffer (saleBody 7 0)).till = 7 ∧ saleWellFormed (saleOffer (saleBody 7 0)) = false) ∧
    (Offers 7 39 recorded ∧ 39 < 40) ∧
    (let s := recorded.setJournal { recorded.journal with nextSequence := none }
     Offers 7 41 s ∧ s.journal.nextSequence = none) ∧
    (let s := (recorded.setJournal { recorded.journal with overflowMark := some 0 }).setTills [(7, ⟨some 2, none, none⟩)]
     Offers 7 41 s ∧ s.journal.overflowMark.isSome = true ∧ s.tills.get? 7 = some ⟨some 2, none, none⟩) ∧
    (let f := (message 0x06 7 (saleBody 7 41)).set 22 1#8
     let s := recorded.setHanded [⟨.t 2, f⟩]
     s.isUp (.t 2) = true ∧ s.firstHanded (.t 2) = some f ∧ frameKind f = 0x06 ∧ envelopeOk f = false) ∧
    (Hears (.t 2) 0x06 7 (saleBody 7 41) fullJournal ∧ fullJournal.journal.scan = none ∧
      fullJournal.tills.get? 7 = some ⟨some 2, some 40, some 1⟩ ∧ saleWellFormed (saleOffer (saleBody 7 41)) = true) := by
  and_intros <;> decide +kernel

theorem test_hyps_SalesAreHeldAtAFullJournal : 16384 ≤ fullJournal.journal.slots.length :=
  le_of_eq (List.length_replicate (n := 16384) (a := writtenSlot (sale 1 40))).symm

theorem test_hyps_RecoveryScanKeepsOrCuts :
    (scanning.journal.scan = some 0 ∧ scanning.journal.slots[0]? = some (writtenSlot (sale 1 40)) ∧
      (writtenSlot (sale 1 40)).check = slotCheck (writtenSlot (sale 1 40)).record ∧
      (sale 1 40).sequence = scanning.journal.nextSequence.getD 4294967296 - scanning.journal.slots.length + 0 ∧
      (scanning.tills.get? (sale 1 40).till).isSome = true) ∧
    ((⟨sale 1 40, 0#32⟩ : Slot).check ≠ slotCheck (sale 1 40)) ∧
    ((sale 2 40).sequence ≠ scanning.journal.nextSequence.getD 4294967296 - scanning.journal.slots.length + 0 ∧
      (scanning.tills.get? 7).map (fun x => x.lastSequence) = some (some 1)) ∧
    ((scanning.setTills []).tills.get? (sale 1 40).till = none ∧ (scanning.setTills []).tills.length < 32 ∧
      (scanning.setTills []).journal = scanning.journal) ∧
    (let s := scanning.setTills ((List.range 32).map (fun k => (k + 100, ⟨none, none, none⟩)))
     s.tills.get? (sale 1 40).till = none ∧ 32 ≤ s.tills.length ∧ s.journal = scanning.journal) := by
  and_intros <;> decide +kernel

/-- Parameters of a Label Attach. -/
def attachParams (id l code : Nat) : List Byte := be 4 id ++ be 1 l ++ be 6 code

/-- An item with no label, priced or not, and perhaps an Unassigned label of ID 9. -/
def bare (active : Option Nat) (labels : Table Label) : State :=
  (ready.setItems [(0, ⟨5, active, ⟨false, false, false⟩, none, [], none⟩)]).setLabels labels

theorem test_hyps_LabelRequestsChangeTheLabel :
    (∀ s ∈ [bare (some 299) [], bare none [], bare (some 299) [(0, ⟨9, .b0, none, none, 0, .unassigned⟩)]],
      ∀ p ∈ [attachParams 9 0 5, attachParams 9 1 5],
      Passes 48 p s ∧ (served 48 p s).TablesCanonical ∧ 11 ≤ p.length ∧ fieldAt p 0 4 ≠ 0 ∧ (linkOf? (fieldAt p 4 1)).isSome = true ∧
      codeOk (fieldAt p 5 6) = true ∧ ((served 48 p s).findItem (fieldAt p 5 6)).map (fun e => e.2.labels) = some [] ∧
      (((served 48 p s).findLabel (fieldAt p 0 4)).map (fun e => e.2.item) = some none ∨
        ((served 48 p s).findLabel (fieldAt p 0 4) = none ∧ (served 48 p s).labels.length < 8192)) ∧
      (served 48 p s).queueRoom .b0 = true ∧ (served 48 p s).queueRoom .b1 = true) ∧
    (Passes 49 (be 4 9) stocked ∧ 4 ≤ (be 4 9).length ∧ fieldAt (be 4 9) 0 4 ≠ 0 ∧
      (served 49 (be 4 9) stocked).findLabel (fieldAt (be 4 9) 0 4) = some (0, label) ∧ label.item = some 0 ∧
      (served 49 (be 4 9) stocked).items.get? 0 = some item) ∧
    (Passes 50 (be 4 9) stocked ∧ (served 50 (be 4 9) stocked).TablesCanonical ∧
      (served 50 (be 4 9) stocked).findLabel (fieldAt (be 4 9) 0 4) = some (0, label)) ∧
    (∀ st ∈ [LabelState.current, .lost, .stale, .queued, .sent 280 0, .unassigned],
      Passes 51 (be 4 9) (labelled st) ∧
      (served 51 (be 4 9) (labelled st)).findLabel (fieldAt (be 4 9) 0 4) = some (0, { label with state := st }) ∧
      (served 51 (be 4 9) (labelled st)).activeFor { label with state := st } = some 299 ∧
      (served 51 (be 4 9) (labelled st)).queueRoom .b0 = true) := by
  and_intros <;> decide +kernel

/-- The Work Queue of the first link full. -/
def crammed (s : State) : State := s.setLink .b0 ⟨.ready, 0, 0, List.replicate 512 7, [], 0⟩

/-- Two items, the label of the first in a state, the second with four labels or none. -/
def shelved (st : LabelState) (ids : List Nat) : State :=
  (labelled st).setItems [(0, item), (1, ⟨6, some 100, ⟨false, false, false⟩, none, ids, none⟩)]

/-- A label moved to its own item, to another, with its link's queue open or full. -/
theorem test_hyps_LabelsMove :
    (∀ st ∈ [LabelState.current, .queued, .sent 299 0, .stale, .lost], ∀ code ∈ [5, 6], ∀ l ∈ [0, 1],
      let p := attachParams 9 l code; let s := shelved st []
      Passes 48 p s ∧ (served 48 p s).TablesCanonical ∧ 11 ≤ p.length ∧ fieldAt p 0 4 = 9 ∧ (linkOf? (fieldAt p 4 1)).isSome = true ∧
      codeOk (fieldAt p 5 6) = true ∧ ((served 48 p s).findItem (fieldAt p 5 6)).map (fun e => e.1) = some (code - 5) ∧
      (served 48 p s).findLabel 9 = some (0, { label with state := st }) ∧ label.item = some 0 ∧
      (served 48 p s).items.get? 0 = some item) ∧
    (let p := attachParams 9 0 5; let s := crammed (shelved .current [])
     Passes 48 p s ∧ (served 48 p s).queueRoom .b0 = false ∧ (served 48 p s).findLabel 9 = some (0, label)) ∧
    (let p := attachParams 9 0 5; let s := crammed (bare (some 299) [])
     Passes 48 p s ∧ (served 48 p s).TablesCanonical ∧ (served 48 p s).queueRoom .b0 = false ∧
     (served 48 p s).findLabel 9 = none ∧ ((served 48 p s).findItem 5).map (fun e => (e.2.active, e.2.labels)) = some (some 299, [])) := by
  and_intros <;> decide +kernel

/-- R94: a label moved from one item to another, and to the end of its own item's list. -/
theorem test_labels_move :
    ([6, 5].map (fun code => (after (.labelAttach .controller) (asked 48 (attachParams 9 1 code) (shelved .current []))).items.map
      (fun kv => (kv.2.labels, kv.2.floor)))) = [[([], none), ([9], none)], [([9], none), ([], none)]] := by decide +kernel

/-- The refusals of the four label requests, and a Resend of a label whose item has no Active Price or whose queue is full. -/
theorem test_hyps_LabelRequestsAreRefused :
    (∀ p ∈ [bytes [], attachParams 0 0 5, attachParams 9 2 5, attachParams 9 0 0], Passes 48 p stocked ∧
      (p.length < 11 ∨ fieldAt p 0 4 = 0 ∨ 2 ≤ fieldAt p 4 1 ∨ codeOk (fieldAt p 5 6) = false)) ∧
    (let p := attachParams 9 0 6
     Passes 48 p stocked ∧ fieldAt p 4 1 < 2 ∧ (served 48 p stocked).findItem (fieldAt p 5 6) = none) ∧
    (let p := attachParams 9 1 6; let s := shelved .current [1, 2, 3, 4]
     Passes 48 p s ∧ ((served 48 p s).findItem (fieldAt p 5 6)).map (fun e => e.2.labels) = some [1, 2, 3, 4] ∧
     [1, 2, 3, 4].contains (fieldAt p 0 4) = false) ∧
    (∀ op ∈ [49, 50, 51], ∀ p ∈ [be 3 0, be 4 0], Passes op p stocked ∧ (p.length < 4 ∨ fieldAt p 0 4 = 0)) ∧
    (∀ op ∈ [49, 50, 51], Passes op (be 4 8) stocked ∧ (served op (be 4 8) stocked).findLabel (fieldAt (be 4 8) 0 4) = none) ∧
    (let s := bare none [(0, ⟨9, .b0, none, none, 0, .unassigned⟩)]
     Passes 49 (be 4 9) s ∧ ((served 49 (be 4 9) s).findLabel (fieldAt (be 4 9) 0 4)).map (fun e => e.2.item) = some none) ∧
    (∀ st ∈ [LabelState.current, .lost, .stale],
      (let s := (labelled st).setItems [(0, { item with active := none })]
       Passes 51 (be 4 9) s ∧ (served 51 (be 4 9) s).findLabel (fieldAt (be 4 9) 0 4) = some (0, { label with state := st }) ∧
       (served 51 (be 4 9) s).activeFor { label with state := st } = none) ∧
      (let s := crammed (labelled st)
       Passes 51 (be 4 9) s ∧ (served 51 (be 4 9) s).activeFor { label with state := st } = some 299 ∧
       (served 51 (be 4 9) s).queueRoom .b0 = false)) := by
  and_intros <;> decide +kernel

/-- A full Label Table, which has no label of an ID. -/
theorem test_hyps_LabelAttachFindsAFullTable :
    let s := stocked.setLabels (List.replicate 8192 (0, label)); let p := attachParams 8 0 5
    Passes 48 p s ∧ 11 ≤ p.length ∧ fieldAt p 0 4 = 8 ∧ 8192 ≤ (served 48 p s).labels.length ∧
    (served 48 p s).findItem (fieldAt p 5 6) = some (0, item) ∧ ∀ kv ∈ (served 48 p s).labels, kv.2.id ≠ 8 := by
  refine ⟨by decide +kernel, by decide, by decide, le_of_eq (List.length_replicate (n := 8192) (a := (0, label))).symm,
    by decide +kernel, ?_⟩
  intro kv h
  rw [List.eq_of_mem_replicate (show kv ∈ List.replicate 8192 (0, label) from h)]
  decide

/-- The part with its first label link's record. -/
def linked (r : LinkRecord) : State := ready.setLink .b0 r

theorem test_hyps_LinksFollowTheirStations :
    (Passes 53 [0#8] (linked ⟨.faulted, 16, 0, [], [], 0⟩) ∧ linkOf? (fieldAt [0#8] 0 1) = some .b0 ∧
      ((served 53 [0#8] (linked ⟨.faulted, 16, 0, [], [], 0⟩)).link .b0).state = .faulted) ∧
    (Passes 53 [1#8] ready ∧ linkOf? (fieldAt [1#8] 0 1) = some .b1 ∧ ((served 53 [1#8] ready).link .b1).state ≠ .faulted) ∧
    (Passes 53 [2#8] ready ∧ 2 ≤ fieldAt [2#8] 0 1) ∧
    Hears (.b .b0) 0x23 7 [] (linked ⟨.silent, 0, 0, [], [], 0⟩) ∧
    (∀ n ∈ [15, 16], let s := tunedLabels (fun x => { x with external := false }) (linked ⟨.ready, n, 3, [1], [2], 0⟩)
      s.superframeAtHand = true ∧ (s.link .b0).state = .ready ∧ (s.link .b0).missed = 3 ∧
      s.settings.labels.faultThreshold = 16) := by
  and_intros <;> decide +kernel

/-- A Label Report of `n` entries, their results and echoed prices as given, and a Station Status with a body or a spoilt check
value. -/
def entriesBody (n result price : Nat) : List Byte :=
  be 1 n ++ be 1 0 ++ (List.replicate n (be 4 9 ++ be 2 1 ++ be 1 result ++ be 1 0 ++ be 4 price)).flatten

/-- The failing messages: no entry, 17 of them, a result out of its list, a price beyond its range; a status with a body, and one
whose check value does not hold. -/
def failing : List (Instr × List Byte) :=
  [entriesBody 0 0 0, entriesBody 17 0 0, entriesBody 1 3 0, entriesBody 1 0 10000000].map (fun b => (.labelReport .b0, message 0x22 7 b)) ++
  [(.stationStatus .b0, message 0x23 7 [0]), (.stationStatus .b0, (message 0x23 7 []).set 18 0xFF)]

theorem test_hyps_FailingReportsAreCounted :
    (∀ x ∈ failing, (x.1 = .labelReport .b0 ∧ frameKind x.2 = 0x22 ∧ reportEntries? x.2 = none) ∨
      (x.1 = .stationStatus .b0 ∧ frameKind x.2 = 0x23 ∧ (envelopeOk x.2 = false ∨ (frameBody x.2).length ≠ 0))) ∧
    (∀ st ∈ [LinkState.off, .silent, .ready, .faulted], ∀ n ∈ [14, 15, 65534, 65535],
      let s := (linked ⟨st, n, 0, [1], [2], 0⟩).setHanded [⟨.b .b0, message 0x23 7 [0]⟩]
      s.isUp (.b .b0) = true ∧ s.firstHanded (.b .b0) = some (message 0x23 7 [0]) ∧
      ((s.takeHanded (.b .b0)).link .b0).state = st ∧ (s.takeHanded (.b .b0)).settings.labels.faultThreshold = 16 ∧
      (decide (min (((s.takeHanded (.b .b0)).link .b0).checkErrors + 1) 65535 < 16) = decide (n = 14))) ∧
    (∀ r ∈ [entriesBody 1 0 9999999, entriesBody 16 1 10000000, entriesBody 16 2 0],
      (reportEntries? (message 0x22 7 r)).map List.length = some (fieldAt r 0 1)) := by
  and_intros <;> decide +kernel

/-- R104, R107: a failing status faults a Ready link at its threshold; of two Sent labels the first returns to the one free place
of the queue, and the second is Stale and counted. -/
theorem test_failing_status_faults_a_ready_link :
    (nextOf (exec (.stationStatus .b0) (((linked ⟨.ready, 15, 0, List.replicate 511 7, [0, 1], 0⟩).setLabels
        [(0, { label with state := .sent 299 1 }), (1, { label with id := 10, state := .sent 299 1 })]).setHanded
        [⟨.b .b0, message 0x23 7 [0]⟩]))).map (fun t =>
      ((t.link .b0).state, (t.link .b0).queue.take 2, t.labels.map (fun kv => kv.2.state),
        [(t.link .b0).checkErrors, (t.link .b0).sentOrder.length, t.counter .linkFault, t.counter .labelStale])) =
      some (.faulted, [0, 7], [.queued, .stale], [16, 0, 1, 1]) := by decide +kernel

theorem test_hyps_SuperframesAdvanceAndServeTheLinks :
    (ready.loading = false ∧ ready.settings.labels.external = false ∧ ready.settings.labels.period ≠ 0 ∧ ready.pacer.timeLeft = 0) ∧
    (tunedLabels (fun x => { x with external := true }) ready).settings.labels.external = true ∧
    (let s := tunedLabels (fun x => { x with period := 0 }) ready
     Passes 54 [] s ∧ (served 54 [] s).settings.labels.external = false ∧ (served 54 [] s).settings.labels.period = 0 ∧
     (served 54 [] s).pacer.oncePending = false ∧ ((served 54 [] s).link .b0).state = .off ∧ (served 54 [] s).isUp (.b .b0) = true) ∧
    (let s := (tunedLabels (fun x => { x with period := 0 }) ready).setPacer { resetPacer with oncePending := true }
     Passes 54 [] s ∧ (served 54 [] s).pacer.oncePending = true ∧ s.loading = false ∧ s.settings.labels.external = false ∧
     s.settings.labels.period = 0 ∧ s.pacer.oncePending = true) := by
  and_intros <;> decide +kernel

/-- The part with a Queued label of the item in the first link's Work Queue, the label showing a price, the link in a state with a
missed-beacon count. -/
def paced (shown : Option Nat) (st : LinkState) (missed : Nat) : State :=
  (stocked.setLabels [(0, { label with shown := shown, state := .queued })]).setLink .b0 ⟨st, 15, missed, [0], [], 0⟩

/-- The Beacon that a superframe start offers there. -/
def beacon (s : State) : State × Admission :=
  s.send 0x20 (.b .b0) broadcast (s.pacer.count % 65536) (be 2 s.pacer.number ++ beMoment s.clock.now)

theorem test_hyps_SuperframesServeTheLinks :
    (let s := tunedLabels (fun x => { x with external := true }) ready
     s.loading = false ∧ s.settings.labels.external = true) ∧
    (ready.link .b0).state = .off ∧
    (((paced none .ready 3).link .b0).state = .ready ∧ ((paced none .ready 3).link .b0).missed = 3 ∧
      (paced none .ready 3).superframeAtHand = true) ∧
    (∀ x ∈ [(LinkState.ready, 2), (.silent, 3), (.faulted, 0)], let u := paced (some 280) x.1 x.2
      (u.link .b0).state ≠ .off ∧ ((u.link .b0).state ≠ .ready ∨ (u.link .b0).missed ≠ 3) ∧ u.loading = false ∧
      u.takesCopy .control (.b .b0) = true ∧ u.roomFor .control 1 = true ∧ (beacon u).2 = .stored 0) ∧
    cellsOf (buildMessage 0x20 broadcast ready.managementAddress 0 (be 2 0 ++ beMoment ⟨0, 0⟩)).length = 1 ∧
    (imaged .loading (paced none .ready 2)).loading = true ∧
    (let u := (paced none .ready 2).setPort (.b .b0) powerOnPort
     u.takesCopy .control (.b .b0) = false ∧ (u.link .b0).state = .ready ∧ (u.link .b0).missed = 2) ∧
    (let u := (paced none .ready 2).setPool (filled 8192).pool
     u.roomFor .control 1 = false ∧ (u.link .b0).state = .ready ∧ (u.link .b0).missed = 2) ∧
    (let v := paced (some 280) .ready 2
     (takeLabels (v.link .b0).queue v.settings.labels.slotBudget v).2 = ([0], []) ∧ v.activeFor label = some 299 ∧
     label.shown ≠ some 299 ∧
     cellsOf (buildMessage 0x21 broadcast v.managementAddress 0 (be 2 0 ++ be 1 1 ++ [0#8] ++ be 8 0)).length = 1) ∧
    (let v := paced (some 299) .ready 2
     (takeLabels (v.link .b0).queue v.settings.labels.slotBudget v).2 = ([], [])) := by
  and_intros <;> decide +kernel

/-- A Beacon Once pending at the advance that begins its superframe; one refused; a superframe of the pacer that the advance starts;
a Ready link with three missed beacons, at and below the fault threshold, its queue with room for one of two Sent labels. -/
theorem test_hyps_SuperframesStartEverywhere :
    (let s := (tunedLabels (fun x => { x with period := 0 }) ready).setPacer { resetPacer with oncePending := true }
     s.loading = false ∧ s.settings.labels.external = false ∧ s.settings.labels.period = 0 ∧ s.pacer.oncePending = true) ∧
    (ready.loading = false ∧ 16 ≤ ready.settings.labels.period ∧ ready.pacer.timeLeft = 0 ∧
      (∀ n ∈ dailyNames, ready.dailyDue n = false) ∧ ready.cutoverDue = false ∧
      ∃ w, exec .pacerExpiry ready.fireDue = .next w) ∧
    (∀ x ∈ [(true, 0), (true, 250), (false, 250)], let s := tunedLabels (fun y => { y with external := x.1, period := x.2 }) ready
      Passes 54 [] s ∧ (served 54 [] s).settings.labels.external = x.1 ∧ (served 54 [] s).settings.labels.period = x.2) ∧
    (∀ n ∈ [15, 16], let u := linked ⟨.ready, n, 3, List.replicate 511 7, [0, 1], 0⟩
      (u.link .b0).state = .ready ∧ (u.link .b0).missed = 3 ∧ u.settings.labels.faultThreshold = 16 ∧
      (u.link .b0).overflow = [1] ∧ (u.link .b0).returned = [0] ∧ u.superframeAtHand = true) ∧
    ((paced none .ready 3).link .b0).overflow = [] := by
  and_intros <;> first | decide +kernel | exact ⟨_, rfl⟩

/-- R114: a superframe's work on a link whose queue holds a label that does not show its price, one that does, and one whose
Beacon is refused: the state of the label, the frames that join the port's queue, the missed-beacon count, the Work Queue. -/
theorem test_superframe_serves_the_link :
    ([paced (some 280) .ready 2, paced (some 299) .ready 2, paced none .silent 3, (paced none .ready 2).setPort (.b .b0) powerOnPort].map
      (fun u => let t := u.linkSuperframe .b0
        ((t.labels.get? 0).map (fun x => x.state), t.queue (.b .b0) .control, (t.link .b0).missed, (t.link .b0).queue))) =
      [(some (.sent 299 0), [0, 1], 3, []), (some .current, [0], 3, []), (some .queued, [0], 3, [0]), (some .queued, [], 2, [0])] := by
  decide +kernel

/-- A Label Report of one entry: label 9, Number 1, a result, a price. -/
def reportBody (result price : Nat) : List Byte := [1#8, 0#8] ++ be 4 9 ++ be 2 1 ++ be 1 result ++ be 1 0 ++ be 4 price

/-- The part at superframe count 4, Number 4, with a label Sent at Count 0 or at the window's count 1. -/
def awaiting (count attempts : Nat) : State :=
  (stocked.setLabels [(0, { label with state := .sent 299 count, attempts := attempts })]).setPacer
    ⟨0, 250, false, 4, 4, [(4, 4), (3, 3), (2, 2), (1, 1)]⟩

/-- The label's report stands ready. -/
abbrev Reports (result price attempts : Nat) : Prop :=
  Hears (.b .b0) 0x22 7 (reportBody result price) (awaiting 1 attempts) ∧
  reportEntries? (message 0x22 7 (reportBody result price)) = some [(reportBody result price).drop 2] ∧
  fieldAt ((reportBody result price).drop 2) 0 4 = 9 ∧ fieldAt ((reportBody result price).drop 2) 6 1 = result ∧
  fieldAt ((reportBody result price).drop 2) 8 4 = price ∧
  (awaiting 1 attempts).findLabel 9 = some (0, { label with state := .sent 299 1, attempts := attempts }) ∧
  (awaiting 1 attempts).numberOf 1 = some (fieldAt ((reportBody result price).drop 2) 4 2)

/-- The part at superframe count 4 with its label in a state. -/
def awaitingIn (st : LabelState) : State := (labelled st).setPacer ⟨0, 250, false, 4, 4, [(4, 4), (3, 3), (2, 2), (1, 1)]⟩

theorem test_hyps_ReportsAndDeadlinesMoveLabels :
    (Reports 0 299 0 ∧ (awaiting 1 0).activeFor label = some 299) ∧
    (Reports 0 298 0 ∧ (awaiting 1 0).activeFor label ≠ some 298 ∧ (awaiting 1 0).queueRoom .b0 = true) ∧
    (Reports 1 0 3 ∧ (awaiting 1 3).queueRoom .b0 = true) ∧ Reports 1 0 4 ∧ Reports 2 0 4 ∧
    (let b := [2#8, 0#8] ++ (reportBody 1 0).drop 2 ++ (reportBody 0 299).drop 2
     Hears (.b .b0) 0x22 7 b (awaiting 1 0) ∧ (reportEntries? (message 0x22 7 b)).map List.length = some 2) ∧
    (let e := (reportBody 0 299).drop 2
     (ready.findLabel (fieldAt e 0 4) = none) ∧ fieldAt e 6 1 = 0 ∧
     (∀ st ∈ [LabelState.current, .queued, .stale, .lost, .sent 299 4],
       (awaitingIn st).findLabel (fieldAt e 0 4) = some (0, { label with state := st }) ∧
       (awaitingIn st).items.get? 0 = some item ∧ (awaitingIn st).settings.labels.max ≠ 0 ∧
       (awaitingIn st).numberOf 4 ≠ some (fieldAt e 4 2) ∧ (awaitingIn st).queueRoom .b0 = true) ∧
     item.active ≠ some 298 ∧ item.active = some 299) ∧
    ((awaiting 0 3).labels.get? 0 = some { label with state := .sent 299 0, attempts := 3 } ∧
      ((awaiting 0 3).pacer.count + 4294967296 - 0) % 4294967296 = 4 ∧ (awaiting 0 3).queueRoom .b0 = true) ∧
    ((awaiting 0 4).labels.get? 0 = some { label with state := .sent 299 0, attempts := 4 } ∧
      ((awaiting 0 4).pacer.count + 4294967296 - 0) % 4294967296 = 4) := by
  and_intros <;> decide +kernel

/-- A Ready link, its Stale Scan at a position, with a label in a state at index 8,191. -/
def staleAt (position : Nat) (st : LabelState) : State :=
  (stocked.setLabels [(8191, { label with state := st })]).setLink .b0 ⟨.ready, 0, 0, [], [], position⟩

theorem test_hyps_StaleScansQueueStaleLabels :
    ((staleAt 8191 .stale).staleScanRuns .b0 = true ∧ ((staleAt 8191 .stale).link .b0).scanPosition = 8191 ∧
      (staleAt 8191 .stale).labels.get? 8191 = some { label with state := .stale } ∧
      (staleAt 8191 .stale).activeFor { label with state := .stale } = some 299) ∧
    ((staleAt 8190 .stale).staleScanRuns .b0 = true ∧ (staleAt 8190 .stale).labels.get? 8190 = none) ∧
    (staleAt 8191 .current).staleScanRuns .b0 = false := by
  and_intros <;> decide +kernel

theorem test_hyps_StaleScansQueueStaleLabels_other_link :
    (∃ t, exec (.staleScanStep .b0) (staleAt 8191 .stale) = .next t) ∧ LinkId.b1 ≠ LinkId.b0 := ⟨⟨_, rfl⟩, by decide⟩

theorem test_hyps_NightLinkStartsAndStops :
    (∀ st ∈ [SessionState.idle, .done, .failed, .cut], Passes 96 [] (session st) ∧
      (served 96 [] (session st)).session.state.active = false ∧ Passes 97 [] (session st) ∧
      (served 97 [] (session st)).session.state.active = false) ∧
    (∀ st ∈ [SessionState.opening, .draining, .stopping, .receiving, .closing], Passes 96 [] (session st) ∧
      (served 96 [] (session st)).session.state.active = true) ∧
    (∀ st ∈ [SessionState.opening, .receiving, .closing, .draining, .stopping], Passes 97 [] (session st) ∧
      (served 97 [] (session st)).session.state = st ∧ (served 97 [] (session st)).session.outstanding = []) ∧
    (Passes 97 [] (draining .draining [1]) ∧ (served 97 [] (draining .draining [1])).session.state = .draining ∧
      (served 97 [] (draining .draining [1])).session.outstanding ≠ []) := by
  and_intros <;> decide +kernel

/-- A Transfer Accept: the Session Id, a status, a window, Batch Expected, and perhaps a time. -/
def acceptBody (status window expected present ms : Nat) : List Byte :=
  be 4 77 ++ be 1 status ++ be 1 window ++ be 1 expected ++ be 1 present ++ be 2 500 ++ be 4 ms

/-- A session whose Transfer Open has been offered, the journal holding four records or none. -/
def opening (held : Bool) : State :=
  if held then (draining .opening []).setSession (session .opening).session else session .opening

/-- The Transfer Accept stands ready, in its place. -/
abbrev Accepts (b : List Byte) (s : State) : Prop :=
  Hears .up 0x41 3 b s ∧ transferAcceptOk b = true ∧ (taken .up 0x41 3 b s).session.state = .opening ∧
  (taken .up 0x41 3 b s).session.openOffered = true ∧ frameTag (message 0x41 3 b) = (taken .up 0x41 3 b s).session.openTag

/-- The part with its head-office station configured. -/
def known (s : State) : State := tunedManagement (fun m => { m with headOffice := some other }) s

/-- R84, R90: the last step of the Recovery Scan answers the journal report that waits for it. -/
theorem test_scan_end_answers_the_report :
    (nextOf (exec (.recoveryScanStep none) (known (scanning.setSession (session .opening).session)))).map
      (fun t => (t.journal.scan, t.session.reportAsked, t.queue .up .control)) = some (none, false, [0]) := by decide +kernel

theorem test_hyps_TransferOpensAndIsAccepted :
    ((session .opening).session.state = .opening ∧ (session .opening).session.reportAsked = true ∧
      (session .opening).journal.scan = none) ∧
    (let s := known (session .opening)
     s.loading = false ∧ s.takesCopy .control .up = true ∧
     s.roomFor .control (cellsOf (buildMessage 0x40 s.headOfficeStation s.managementAddress s.session.openTag
       s.transferOpenBody).length) = true) ∧
    (let s := scanning.setSession (session .opening).session
     s.journal.scan.isSome = true ∧ (s.recoveryScanStep none).journal.scan = none ∧
     (s.recoveryScanStep (some ⟨sale 1 40, 0#32⟩)).journal.scan = none) ∧
    (let s := (draining .opening []).onJournal (fun j => { j with scan := some 0 })
     s.journal.scan.isSome = true ∧ (s.recoveryScanStep none).journal.scan.isSome = true) ∧
    ((session .idle).session.state ≠ .opening) ∧
    (Accepts (acceptBody 0 255 1 0 0) (opening true) ∧ acceptTime (acceptBody 0 255 1 0 0) = none ∧
      fieldAt (acceptBody 0 255 1 0 0) 4 1 = 0 ∧ (opening true).session.outstanding = [] ∧ (opening true).journal.slots ≠ []) ∧
    (Accepts (acceptBody 0 0 1 0 0) (opening false) ∧ (opening false).journal.slots = []) ∧
    (Accepts (acceptBody 1 0 0 0 0) (opening true) ∧ fieldAt (acceptBody 1 0 0 0 0) 4 1 = 1) ∧
    (∀ ms ∈ [86399999, 86400000], Accepts (acceptBody 0 4 0 1 ms) (opening true) ∧ fieldAt (acceptBody 0 4 0 1 ms) 7 1 = 1 ∧
      (opening true).settings.management.takeOfficeTime = true) ∧
    (Accepts (acceptBody 0 4 0 1 0) (tunedManagement (fun m => { m with takeOfficeTime := false }) (opening true)) ∧
      (tunedManagement (fun m => { m with takeOfficeTime := false }) (opening true)).settings.management.takeOfficeTime = false) := by
  and_intros <;> decide +kernel

/-- A session in Draining over four records, one of them acknowledged and sent, its window and its blocks as given. -/
def sending (window : Nat) (blocks : List OutBlock) : State :=
  let s := known (draining .draining [])
  s.setSession { s.session with window := some window, nextSend := some 2, nextBlock := 2, outstanding := blocks }

/-- The Journal Block that comes next there. -/
def nextBlock : OutBlock := ⟨2, 2, 3, .waiting 0, false⟩

/-- R148: a new block is made while fewer are outstanding than the Window, none waits and Next Send is not past the Drain Mark. -/
theorem test_hyps_NewBlocksAreMade :
    (sending 1 []).session.newBlock? = some nextBlock ∧
    (sending 2 [⟨1, 1, 1, .offered, false⟩]).session.newBlock? = some nextBlock ∧
    (sending 1 [⟨1, 1, 1, .offered, false⟩]).session.newBlock? = none ∧
    (sending 4 [⟨1, 1, 1, .waiting 0, true⟩]).session.newBlock? = none ∧
    (draining .draining []).session.newBlock? = none ∧ (draining .stopping []).session.newBlock? = none ∧
    (session .draining).session.newBlock? = none ∧
    (let s := sending 1 []
     s.loading = false ∧ s.takesCopy .bulk .up = true ∧ (s.blockSegments nextBlock).length = 1 ∧
     ((s.blockSegments nextBlock)[0]?).map (fun body => s.roomFor .bulk (cellsOf (buildMessage 0x42 s.headOfficeStation
       s.managementAddress 2 body).length)) = some true) ∧
    ((imaged .loading (sending 1 [])).loading = true ∧ ((sending 1 []).setPort .up powerOnPort).takesCopy .bulk .up = false ∧
      ((sending 1 []).setPool (filled 8192).pool).roomFor .bulk 1 = false) ∧
    ((opening true).journal.oldest = some 1 ∧ (opening true).journal.newest = some 4 ∧
      1 ≤ (opening true).settings.windowLimit) := by
  and_intros <;> decide +kernel

/-- R148: the block sent, and the session's fields after it. -/
theorem test_new_block_is_sent :
    (let t := (sending 1 []).sendBlock nextBlock
     t.queue .up .bulk = [0] ∧ t.session.outstanding = [{ nextBlock with condition := .offered }] ∧
     t.session.nextSend = some 5 ∧ t.session.nextBlock = 3 ∧ t.session.timer = some 5000) ∧
    (let t := ((sending 1 []).setPort .up powerOnPort).sendBlock nextBlock
     t.session.outstanding = [{ nextBlock with counted := true }] ∧ t.counter .queueDrop = 1) := by
  and_intros <;> decide +kernel

theorem test_hyps_DrainingEnds :
    ((draining .draining []).session.outstanding = [] ∧ (draining .draining []).session.type = some .night ∧
      (draining .draining []).session.nextSend = some 5 ∧ (draining .draining []).session.drainMark = some 4 ∧
      (draining .draining []).session.batchExpected = false) ∧
    ((sending 1 []).session.nextSend = some 2 ∧ (sending 1 []).session.drainMark = some 4) ∧
    (session .closing).session.state ≠ .draining := by
  and_intros <;> decide +kernel

/-- The first Transfer End finds room on entering Closing at the end of draining. -/
theorem test_hyps_ClosingBeginsWithATransferEnd :
    let s := known (draining .draining [])
    s.session.state = .draining ∧ s.session.outstanding = [] ∧ s.session.nextSend = some 5 ∧ s.session.drainMark = some 4 ∧
    s.session.batchExpected = false ∧ s.loading = false ∧ s.takesCopy .control .up = true ∧
    s.roomFor .control (cellsOf (buildMessage 0x49 s.headOfficeStation s.managementAddress s.session.openTag
      s.transferEndBody).length) = true := by
  and_intros <;> decide +kernel

/-- A Block Ack: a Session Id, a block number, a status. -/
def ackBody (id n status : Nat) : List Byte := be 4 id ++ be 2 n ++ be 1 status ++ be 1 0

/-- The Block Ack of the session stands ready. -/
abbrev AcksBlock (n status : Nat) (s : State) : Prop :=
  Hears .up 0x43 7 (ackBody 77 n status) s ∧ (ackBody 77 n status).length = 8 ∧ fieldAt (ackBody 77 n status) 4 2 = n ∧
  fieldAt (ackBody 77 n status) 6 1 = status ∧
  (taken .up 0x43 7 (ackBody 77 n status) s).session.sessionId = some (fieldAt (ackBody 77 n status) 0 4)

/-- A release notice not yet acted on, the second and the third of three blocks waiting. -/
def waiting (st : SessionState) : State :=
  let s := known (draining st [])
  s.setSession { s.session with
    outstanding := [⟨1, 1, 1, .offered, false⟩, ⟨2, 2, 1, .waiting 0, false⟩, ⟨3, 3, 1, .waiting 0, false⟩], releaseNotice := true }

theorem test_hyps_AcksRemoveAcknowledgedRecords :
    (∀ n ∈ [1, 3], let s := draining .draining [1, 2, 3]
      AcksBlock n 0 s ∧ (s.session.outstanding.getLast?).map (fun y => y.number) = some 3 ∧
      ((s.session.outstanding.filter (fun x => decide (x.number ≤ n))).getLast?).map (fun z => z.first + z.records - 1) = some n ∧
      s.journal.oldest = some 1) ∧
    (∀ n ∈ [1, 3], AcksBlock n 0 (draining .stopping [1, 2, 3])) ∧
    ((draining .stopping [1, 2, 3]).session.outstanding.filter (fun x => !decide (x.number ≤ 1)) ≠ [] ∧
      (draining .stopping [1, 2, 3]).session.outstanding.filter (fun x => !decide (x.number ≤ 3)) = []) ∧
    (AcksBlock 1 0 (draining .draining [2, 3]) ∧ ∀ x ∈ (draining .draining [2, 3]).session.outstanding, 1 < x.number) ∧
    AcksBlock 3 1 (draining .draining [1, 2, 3]) ∧
    (Hears .up 0x43 7 (ackBody 76 1 1) (draining .draining [1]) ∧
      (draining .draining [1]).session.sessionId ≠ some (fieldAt (ackBody 76 1 1) 0 4)) ∧
    (let s := draining .stopping [1]; let t := s.setSession { s.session with releaseNotice := true }
     t.session.releaseNotice = true ∧ t.session.state = .stopping) ∧
    (∀ st ∈ [SessionState.draining, .stopping], let s := waiting st
      s.session.releaseNotice = true ∧ s.session.state = st ∧
      s.session.outstanding = [⟨1, 1, 1, .offered, false⟩] ++ ⟨2, 2, 1, .waiting 0, false⟩ :: [⟨3, 3, 1, .waiting 0, false⟩] ∧
      (s.blockSegments ⟨2, 2, 1, .waiting 0, false⟩).length = 1 ∧ s.loading = false ∧ s.takesCopy .bulk .up = true ∧
      s.roomFor .bulk 1 = true ∧ ((s.blockSegments ⟨2, 2, 1, .waiting 0, false⟩)[0]?).map (fun body =>
        cellsOf (buildMessage 0x42 s.headOfficeStation s.managementAddress 2 body).length) = some 1) ∧
    ((imaged .loading (waiting .draining)).loading = true ∧
      ((waiting .draining).setPort .up powerOnPort).takesCopy .bulk .up = false) := by
  and_intros <;> decide +kernel

/-- Acks above the newest block, with no block outstanding, in Receiving and Closing, and in a state that takes none. -/
theorem test_hyps_AcksOfNothing :
    (∀ st ∈ [SessionState.draining, .stopping], ∀ status ∈ [0, 1],
      (let s := draining st [1, 2]
       AcksBlock 3 status s ∧ (s.session.outstanding.getLast?).map (fun y => y.number) = some 2 ∧ s.session.state = st) ∧
      (AcksBlock 5 status (draining st []) ∧ (draining st []).session.outstanding = [] ∧ (draining st []).session.nextBlock = 5) ∧
      (AcksBlock 4 status (draining st []) ∧ 4 < (draining st []).session.nextBlock)) ∧
    (∀ st ∈ [SessionState.receiving, .closing, .idle, .opening, .done, .failed, .cut], ∀ n ∈ [4, 5], ∀ status ∈ [0, 1],
      AcksBlock n status (draining st []) ∧ (draining st []).session.nextBlock = 5 ∧ (draining st []).session.state = st) := by
  and_intros <;> decide +kernel

/-- R149: of two waiting blocks the first is admitted whole and the next follows; where UP takes nothing the first waits on. -/
theorem test_hyps_BlocksFollowOneAnother :
    (let s := waiting .draining; let b : OutBlock := ⟨2, 2, 1, .waiting 0, false⟩
     s.session.releaseNotice = true ∧ b.condition = .waiting 0 ∧
     (offerSegments b ((s.blockSegments b).drop 0) 0 s).2.condition = .offered) ∧
    (let s := (waiting .draining).setPort .up powerOnPort; let b : OutBlock := ⟨2, 2, 1, .waiting 0, false⟩
     (offerSegments b ((s.blockSegments b).drop 0) 0 s).2.condition ≠ .offered) := by
  and_intros <;> decide +kernel

theorem test_hyps_BlocksAreCut :
    (let s := draining .draining []
     s.journal.oldest = some 1 ∧ ((s.journal.slots.drop (2 - 1)).take 3).length = 3 ∧
     (∀ x ∈ (s.journal.slots.drop (2 - 1)).take 3, (slotBytes x).length ≤ 1494) ∧
     (cutFrom ((s.journal.slots.drop (2 - 1)).take 3) []).length = 1) ∧
    (let long := writtenSlot { sale 1 40 with lines := List.replicate 48 ⟨5, 1, 299, false, false, false, false⟩ }
     (slotBytes long).length = 798 ∧ (cutFrom [long, long] []).length = 2) := by
  and_intros <;> decide +kernel

theorem test_hyps_EndAckCompletesTheSession :
    (be 4 77).length = 4 ∧
    (∀ st ∈ [SessionState.closing, .done, .idle, .opening, .draining, .stopping, .receiving, .failed, .cut],
      Hears .up 0x4A 7 (be 4 77) (session st) ∧ (session st).session.state = st ∧
      (session st).session.sessionId = some (fieldAt (be 4 77) 0 4)) := by
  and_intros <;> decide +kernel

/-- The Timer over in Receiving, after a number of expiries, perhaps with a batch. -/
def expiring (retry : Nat) (b : Option Batch) : State :=
  ((session .receiving).setSession { (session .receiving).session with retry := retry, timer := some 0 }).setBatch b

theorem test_hyps_TimerExpiriesRetryOrEndTheSession :
    ((expiring 1 none).session.timer = some 0 ∧ (expiring 1 none).session.state = .receiving ∧ (expiring 1 none).session.retry + 1 < 3) ∧
    (3 ≤ (expiring 2 none).session.retry + 1 ∧ (expiring 2 (some (batch .receiving))).batch = some (batch .receiving)) ∧
    (∀ b ∈ (expiring 2 (some (batch .armed))).batch, b.state ≠ .receiving) := by
  and_intros <;> decide +kernel

/-- A session with its Timer over in a state, after a number of expiries, its blocks outstanding as given. -/
def overdue (st : SessionState) (retry : Nat) (blocks : List OutBlock) : State :=
  let s := known (draining st [])
  s.setSession { s.session with retry := retry, timer := some 0, outstanding := blocks }

theorem test_hyps_TimerExpiriesInEveryState :
    (∀ st ∈ [SessionState.opening, .draining, .receiving, .closing], ∀ n ∈ [1, 2],
      (overdue st n []).session.timer = some 0 ∧ (overdue st n []).session.state = st ∧ (overdue st n []).session.retry = n ∧
      (overdue st n []).batch = none) ∧
    ((overdue .stopping 0 [⟨1, 1, 1, .offered, false⟩]).session.timer = some 0 ∧
      (overdue .stopping 0 [⟨1, 1, 1, .offered, false⟩]).session.state = .stopping) ∧
    (let s := overdue .opening 1 []
     s.loading = false ∧ s.takesCopy .control .up = true ∧ s.roomFor .control (cellsOf
       (buildMessage 0x40 s.headOfficeStation s.managementAddress s.session.openTag s.transferOpenBody).length) = true) ∧
    (let s := overdue .closing 1 []
     s.loading = false ∧ s.takesCopy .control .up = true ∧ s.roomFor .control (cellsOf
       (buildMessage 0x49 s.headOfficeStation s.managementAddress s.session.openTag s.transferEndBody).length) = true) ∧
    (∀ c ∈ [Condition.offered, .waiting 0], let b : OutBlock := ⟨1, 1, 1, c, false⟩; let s := overdue .draining 1 [b]
     (s.blockSegments b).length = 1 ∧ s.loading = false ∧ s.takesCopy .bulk .up = true ∧
     ((s.blockSegments b)[0]?).map (fun body => s.roomFor .bulk (cellsOf
       (buildMessage 0x42 s.headOfficeStation s.managementAddress b.number body).length)) = some true) ∧
    (imaged .loading (overdue .draining 1 [⟨1, 1, 1, .offered, false⟩])).loading = true ∧
    ((overdue .draining 1 [⟨1, 1, 1, .offered, false⟩]).setPort .up powerOnPort).takesCopy .bulk .up = false ∧
    ((overdue .draining 1 [⟨1, 1, 1, .offered, false⟩]).setPool (filled 8192).pool).roomFor .bulk 1 = false ∧
    (∀ st ∈ [SessionState.idle, .done, .failed, .cut], (overdue st 0 []).session.state.active = false) := by
  and_intros <;> decide +kernel

/-- A resend in Draining: the first block admitted whole, or refused. -/
theorem test_hyps_BlocksAreResent :
    (∀ c ∈ [Condition.offered, .waiting 0], let b : OutBlock := ⟨1, 1, 1, c, false⟩; let s := overdue .draining 1 [b]
      s.session.timer = some 0 ∧ s.session.state = .draining ∧ s.session.retry + 1 < 3 ∧
      (offerSegments b ((s.blockSegments b).drop 0) 0 s).2.condition = .offered ∧
      (let v := s.setPort .up powerOnPort
       (offerSegments b ((v.blockSegments b).drop 0) 0 v).2.condition ≠ .offered)) := by
  decide +kernel

/-- R146, R151, R156, R157: what an expiry leaves of the session's state and Retry Count, of UP's Control and Bulk queues and of
the outstanding blocks' conditions. -/
theorem test_timer_expiries :
    (∀ x ∈ [(overdue .opening 1 [], SessionState.opening, 2), (overdue .opening 2 [], .failed, 3), (overdue .closing 1 [], .closing, 2),
        (overdue .stopping 0 [⟨1, 1, 1, .offered, false⟩], .cut, 0)],
      (after .blockTimerExpiry x.1).session.state = x.2.1 ∧ (after .blockTimerExpiry x.1).session.retry = x.2.2 ∧
      (after .blockTimerExpiry x.1).queue .up .control = if x.2.2 = 2 then [0] else []) ∧
    (let t := after .blockTimerExpiry (overdue .draining 1 [⟨1, 1, 1, .offered, false⟩, ⟨2, 2, 1, .waiting 0, false⟩])
     t.queue .up .bulk = [0, 1] ∧ t.session.outstanding = [⟨1, 1, 1, .offered, false⟩, ⟨2, 2, 1, .offered, false⟩]) ∧
    (let t := after .blockTimerExpiry ((overdue .draining 1 [⟨1, 1, 1, .offered, false⟩, ⟨2, 2, 1, .offered, false⟩]).setPort .up powerOnPort)
     t.queue .up .bulk = [] ∧ t.session.outstanding = [⟨1, 1, 1, .waiting 0, true⟩, ⟨2, 2, 1, .waiting 0, false⟩]) := by
  and_intros <;> decide +kernel

/-- A Batch Open: number 1, a declared count, and perhaps a Cutover Time. -/
def openBody (declared present ms : Nat) : List Byte := be 4 1 ++ be 2 declared ++ be 1 present ++ be 2 500 ++ be 4 ms

/-- A Batch Part of batch 1: a part number and its changes, each of item 5 at 300. -/
def partBody (part n : Nat) : List Byte :=
  be 4 1 ++ be 2 part ++ be 1 n ++ be 1 0 ++ (List.replicate n (be 6 5 ++ be 4 300 ++ be 2 0)).flatten

/-- A Batch Close of batch 1. -/
def closeBody (count check : Nat) : List Byte := be 4 1 ++ be 2 count ++ be 4 check

/-- A session in Receiving with an Open batch that declares a number of changes and has received them all. -/
def receivingBatch (declared received : Nat) (time : Option Moment) : State :=
  ((session .receiving).setItems [(0, item)]).setBatch
    (some ⟨1, declared, received, 0, 1, 0#32, time, .receiving, 0⟩)

theorem test_hyps_BatchMessagesBuildTheBatch :
    (∀ d ∈ [1, 32768], Hears .up 0x44 7 (openBody d 0 0) (session .receiving) ∧ (openBody d 0 0).length = 13 ∧
      momentOptionAt (openBody d 0 0) 6 = some none ∧ (session .receiving).batch = none ∧ fieldAt (openBody d 0 0) 4 2 = d) ∧
    (Hears .up 0x44 7 (openBody 1 1 86399999) (session .receiving) ∧
      momentOptionAt (openBody 1 1 86399999) 6 = some (some ⟨500, 86399999⟩)) ∧
    (∀ n ∈ [1, 64], Hears .up 0x45 7 (partBody 1 n) (receivingBatch 64 0 none) ∧ fieldAt (partBody 1 n) 6 1 = n ∧
      (partBody 1 n).length = 8 + 12 * n ∧ fieldAt (partBody 1 n) 0 4 = 1 ∧ fieldAt (partBody 1 n) 4 2 = 1) ∧
    (itemFlagsOf? (fieldAt ((partBody 1 1).drop 8) 10 1 % 128) = some ⟨false, false, false⟩ ∧
      codeOk (fieldAt ((partBody 1 1).drop 8) 0 6) = true ∧ fieldAt ((partBody 1 1).drop 8) 6 4 ≤ 9999999 ∧
      (receivingBatch 1 0 none).findItem (fieldAt ((partBody 1 1).drop 8) 0 6) = some (0, item)) ∧
    (Hears .up 0x47 7 (closeBody 3 0) (receivingBatch 3 3 none) ∧ (closeBody 3 0).length = 10 ∧ fieldAt (closeBody 3 0) 0 4 = 1 ∧
      fieldAt (closeBody 3 0) 4 2 = 3 ∧ fieldAt (closeBody 3 0) 6 4 = (0#32).toNat) ∧
    (Moment.le ⟨500, 43200000⟩ (noon (receivingBatch 3 3 (some ⟨500, 43200000⟩))).clock.now = true ∧
      Moment.le ⟨500, 43200001⟩ (noon (receivingBatch 3 3 (some ⟨500, 43200001⟩))).clock.now = false ∧
      (receivingBatch 3 3 (some ⟨0, 0⟩)).clock.valid = false) ∧
    (Hears .up 0x47 7 (closeBody 3 1) (receivingBatch 3 3 none) ∧ fieldAt (closeBody 3 1) 6 4 ≠ (0#32).toNat) := by
  and_intros <;> decide +kernel

/-- The Transfer End that follows the Batch Verdict finds room. -/
theorem test_hyps_ClosingFollowsTheVerdict :
    let u := taken .up 0x47 7 (closeBody 3 0) (known (receivingBatch 3 3 none))
    let v : State := { u with session := { u.session with retry := 0, timer := some (1000 * u.settings.blockTimer) } }
    let r := v.closeBatch 1 3 0
    let w := r.1.sendHeadOffice 0x48 7 (verdictBody 1 r.2.1 r.2.2)
    let y := State.discardBatch { w with session := { w.session with verdict := some (r.2.1, 1) } }
    Hears .up 0x47 7 (closeBody 3 0) (known (receivingBatch 3 3 none)) ∧ u.session.state = .receiving ∧
    y.loading = false ∧ y.takesCopy .control .up = true ∧ y.roomFor .control (cellsOf
      (buildMessage 0x49 y.headOfficeStation y.managementAddress y.session.openTag y.transferEndBody).length) = true := by
  and_intros <;> decide +kernel

/-- The statuses of a Batch Open and a Batch Part. -/
theorem test_hyps_BatchMessagesTurnedAway :
    (∀ d ∈ [0, 3, 4, 32769], Hears .up 0x44 7 (openBody d 0 0) (receivingBatch 3 0 none) ∧ (openBody d 0 0).length = 13 ∧
      momentOptionAt (openBody d 0 0) 6 = some none ∧ fieldAt (openBody d 0 0) 4 2 = d) ∧
    momentOptionAt (openBody 3 1 86400000) 6 = some (some ⟨500, 86400000⟩) ∧
    (Hears .up 0x45 7 (partBody 1 1) ((batched .armed).setSession (session .receiving).session) ∧
      (batch .armed).number = fieldAt (partBody 1 1) 0 4 ∧ (batch .armed).state ≠ .receiving) ∧
    (∀ n ∈ [0, 65], Hears .up 0x45 7 (partBody 1 n) (receivingBatch 3 0 none) ∧ fieldAt (partBody 1 n) 6 1 = n ∧
      8 ≤ (partBody 1 n).length) ∧
    (∀ k ∈ [0, 2], Hears .up 0x45 7 (partBody k 1) (receivingBatch 3 0 none) ∧ fieldAt (partBody k 1) 4 2 = k ∧ k ≠ 1) ∧
    (Hears .up 0x45 7 (partBody 1 1) (receivingBatch 3 3 none) ∧ 3 < 3 + fieldAt (partBody 1 1) 6 1) ∧
    (fieldAt (be 4 2 ++ (partBody 1 1).drop 4) 0 4 ≠ 1 ∧
      Hears .up 0x45 7 (be 4 2 ++ (partBody 1 1).drop 4) (receivingBatch 3 0 none)) ∧
    (Hears .up 0x44 7 (openBody 0 0 0) (session .receiving) ∧ Hears .up 0x45 7 (partBody 1 1) (session .receiving) ∧
      (session .receiving).session.state = .receiving ∧ (session .receiving).batch = none) := by
  and_intros <;> decide +kernel

/-- The statuses that these are answered with: Range, Repeated, Busy, Range; Range, Range, Repeated, Gap, Excess. -/
theorem test_batch_statuses :
    (([0, 3, 4, 32769].map (fun d => ((receivingBatch 3 0 none).openBatch 1 d none).2)) =
      [.range, .repeated, .busy, .range]) ∧
    ([(1, 0, 0), (1, 65, 0), (0, 1, 0), (2, 1, 0), (1, 1, 3)].map (fun x =>
      ((receivingBatch 3 x.2.2 none).batchPart 1 x.1 x.2.1 []).2.1)) = [.range, .range, .repeated, .gap, .excess] := by
  decide +kernel

/-- A change for an item that stands, or for none, created or not, and one outside its ranges. -/
def change (code price flags : Nat) : List Byte := be 6 code ++ be 4 price ++ be 1 flags ++ be 1 0

theorem test_hyps_ChangesAreJudged :
    (∀ e ∈ [change 0 300 0, change 10000000000000 300 0, change 5 10000000 0, change 5 300 8],
      itemFlagsOf? (fieldAt e 10 1 % 128) = none ∨ codeOk (fieldAt e 0 6) = false ∨ 9999999 < fieldAt e 6 4) ∧
    (∀ fl ∈ [0, 7, 128, 135], let e := change 6 9999999 fl
      (itemFlagsOf? (fieldAt e 10 1 % 128)).isSome = true ∧ codeOk (fieldAt e 0 6) = true ∧ fieldAt e 6 4 ≤ 9999999 ∧
      stocked.findItem (fieldAt e 0 6) = none ∧ fieldAt e 10 1 = fl ∧ stocked.items.length < 32768) := by
  and_intros <;> decide +kernel

/-- A full Item Table takes no new item. -/
theorem test_hyps_ChangesFindAFullTable :
    let s := ready.setItems (List.replicate 32768 (0, item))
    32768 ≤ s.items.length ∧ ∀ kv ∈ s.items, kv.2.code ≠ 6 := by
  refine ⟨le_of_eq (List.length_replicate (n := 32768) (a := (0, item))).symm, ?_⟩
  intro kv h
  rw [List.eq_of_mem_replicate h]
  decide

/-- R126: the results of those changes. -/
theorem test_change_results :
    ([change 0 300 0, change 5 10000000 0, change 5 300 8, change 5 300 1, change 6 300 1, change 6 300 129].map
      (fun e => (stocked.applyChange e).2)) =
      [.rejectedRange, .rejectedRange, .rejectedRange, .staged, .rejectedUnknown, .created] := by decide +kernel

/-- A Batch Close that finds no Open record of its number, the Last Verdict as given. -/
def closed (st : SessionState) (b : Option Batch) (v : Option LastVerdict) : State := ((session st).setBatch b).setLastVerdict v

theorem test_hyps_BatchClosesFindNoOpenRecord :
    ∀ st ∈ [SessionState.receiving, .closing], ∀ b ∈ [none, some (batch .armed), some { batch .receiving with number := 2 }],
      ∀ v ∈ [none, some ⟨1, true, 2⟩, some ⟨1, false, 2⟩, some ⟨2, true, 2⟩],
      Hears .up 0x47 7 (closeBody 3 0) (closed st b v) ∧ fieldAt (closeBody 3 0) 0 4 = 1 ∧
      (closed st b v).session.state = st ∧ (∀ x ∈ (closed st b v).batch, x.state = .receiving → x.number ≠ 1) := by
  decide +kernel

/-- R128, R153, R155: what such a Batch Close leaves of the session, the record and UP's Control queue; the notice of a discard
comes between the verdict and the Transfer End (log 47). -/
theorem test_batch_close_without_open_record :
    ∀ x ∈ [(closed .closing none (some ⟨1, true, 2⟩), none, none, [0]),
      (closed .receiving none (some ⟨1, true, 2⟩), some (VerdictKind.good, 1), none, [0, 1]),
      (closed .receiving (some { batch .receiving with number := 2 }) none, some (VerdictKind.noBatch, 1), some BatchState.withdrawing,
        [0, 2])],
      let t := after .batchClose (known (heard .up 0x47 7 (closeBody 3 0) x.1))
      t.session.state = .closing ∧ t.session.verdict = x.2.1 ∧ t.batch.map (fun y => y.state) = x.2.2.1 ∧
      t.queue .up .control = x.2.2.2 := by decide +kernel

/-- A batch in a sweep at a position, and item 5 there, with a stage or an Active Price as given. -/
def sweeping (st : BatchState) (position : Nat) (active : Option Nat) (staged : Option (Nat × ItemFlags)) : State :=
  (ready.setItems [(position, ⟨5, active, ⟨false, false, false⟩, staged, [], none⟩)]).setBatch
    (some { batch st with position := position })

theorem test_hyps_SweepsWalkTheItems :
    (∀ st ∈ [BatchState.cutting, .withdrawing],
      (sweeping st 32766 (some 299) (some (299, ⟨false, false, false⟩))).batch = some { batch st with position := 32766 } ∧
      ((sweeping st 32766 (some 299) (some (299, ⟨false, false, false⟩))).items.get? 32766).map (fun it => it.staged) =
        some (some (299, ⟨false, false, false⟩)) ∧
      (∀ it ∈ (sweeping st 32766 (some 299) none).items.get? 32766, it.staged = none) ∧
      (∀ it ∈ (sweeping st 32767 (some 299) none).items.get? 32767, it.staged = none) ∧ 32767 + 1 = 32768) ∧
    (sweeping .withdrawing 32766 none (some (299, ⟨false, false, false⟩))).TablesCanonical ∧
    (((sweeping .withdrawing 32766 none (some (299, ⟨false, false, false⟩))).items.get? 32766).map (fun it => it.active) = some none) ∧
    (Passes 99 [] (batched .armed) ∧ (served 99 [] (batched .armed)).batch = some (batch .armed)) ∧
    (Passes 99 [] (batched .cutting) ∧ (∀ b ∈ (served 99 [] (batched .cutting)).batch, b.state ≠ .armed)) ∧
    (Passes 99 [] ready ∧ (∀ b ∈ (served 99 [] ready).batch, b.state ≠ .armed)) := by
  and_intros <;> decide +kernel

/-- A stage at the last index but one and at the last, its price the Active Price or another, or on an item without one. -/
theorem test_hyps_SweepsReachAStage :
    (∀ st ∈ [BatchState.cutting, .withdrawing], ∀ k ∈ [0, 32766, 32767], ∀ a ∈ [none, some 298, some 299],
      let s := sweeping st k a (some (299, ⟨false, false, false⟩))
      s.batch = some { batch st with position := k } ∧ (batch st).state = st ∧ s.TablesCanonical ∧
      (s.items.get? k).map (fun it => (it.staged, it.active)) = some (some (299, ⟨false, false, false⟩), a)) ∧
    (∀ n ∈ [0, 511, 512], ∀ st ∈ [LabelState.current, .stale, .queued, .sent 299 1, .lost, .unassigned],
      let s := (labelled st).setLink .b0 ⟨.ready, 0, 0, List.replicate n 7, [], 0⟩
      s.findLabel 9 = some (0, { label with state := st }) ∧ (s.link label.link).queue.length = n) ∧
    stocked.items.get? 0 = some item := by
  and_intros <;> decide +kernel

/-- R100: what the sweep's price notice leaves of the item's label and of its link's queue, by the label's state and the queue's
length; LABEL-STALE is counted where a Current one finds no room. -/
theorem test_sweep_notices_the_label :
    ([(LabelState.current, 511), (.current, 512), (.stale, 511), (.stale, 512), (.lost, 0)].map (fun x =>
      (nextOf (exec .cutoverSweepStep (((labelled x.1).setLink .b0 ⟨.ready, 0, 0, List.replicate x.2 7, [], 0⟩).setItems
        [(32767, { item with staged := some (300, ⟨false, false, false⟩) })] |>.setBatch
        (some { batch .cutting with position := 32767 })))).map (fun t =>
        ((t.labels.get? 0).map (fun l => l.state), (t.link .b0).queue.length, t.counter .labelStale, t.counter .cutoverDone)))) =
      [some (some .queued, 512, 0, 1), some (some .stale, 512, 1, 1), some (some .queued, 512, 0, 1),
        some (some .stale, 512, 0, 1), some (some .lost, 0, 0, 1)] := by decide +kernel

theorem test_hyps_SweepsWalkTheItems_withdraw :
    (Passes 98 [] (batched .armed) ∧ (served 98 [] (batched .armed)).batch = some (batch .armed)) ∧
    (∀ st ∈ [BatchState.receiving, .cutting, .withdrawing], Passes 98 [] (batched st) ∧
      (∀ b ∈ (served 98 [] (batched st)).batch, b.state = .receiving ∨ b.state = .cutting ∨ b.state = .withdrawing)) ∧
    (Passes 98 [] ready ∧ (served 98 [] ready).batch = none) := by
  and_intros <;> decide +kernel

/-- Parameters of a Guest Admit: the station, and its terms left to the settings. -/
def admitParams : List Byte := stationBytes ++ List.replicate 20 0#8

theorem test_hyps_GuestRequestsMakeEntries :
    (∀ st ∈ [GuestState.pending 1, .admitted none, .throttled none, .expired ⟨0, 0⟩],
      Passes 64 admitParams (guested st) ∧ admitParams.length = 26 ∧ (served 64 admitParams (guested st)).guestAddressOk station = true ∧
      stationAt admitParams 0 = station ∧ (admitTerms? (served 64 admitParams (guested st)).settings.guest admitParams).isSome = true ∧
      (served 64 admitParams (guested st)).mode = .trading ∧ (served 64 admitParams (guested st)).findAddress station = none ∧
      ((served 64 admitParams (guested st)).findGuest station).map (fun e => e.2.state) = some st) ∧
    (Passes 64 admitParams (ready.setMode .trading) ∧ (served 64 admitParams (ready.setMode .trading)).findGuest station = none ∧
      (served 64 admitParams (ready.setMode .trading)).guests.table.length < 1024) ∧
    (Passes 64 admitParams ready ∧ (served 64 admitParams ready).mode = .closed) ∧
    (∀ st ∈ [GuestState.pending 1, .barred], Passes 66 stationBytes (guested st) ∧
      ((served 66 stationBytes (guested st)).findGuest station).map (fun e => e.2.state) = some st ∧
      Passes 67 stationBytes (guested st) ∧
      ((served 67 stationBytes (guested st)).findGuest station).map (fun e => e.2.state) = some st) ∧
    (Passes 66 stationBytes ready ∧ (served 66 stationBytes ready).findAddress station = none ∧
      (served 66 stationBytes ready).findGuest station = none) := by
  and_intros <;> decide +kernel

/-- Parameters of a Guest Admit with its terms given. -/
def termParams (a : Station) (present duration rate : Nat) : List Byte :=
  beStation a ++ be 1 present ++ be 4 duration ++ be 1 1 ++ be 4 4294967295 ++ be 1 1 ++ be 4 0 ++ be 1 1 ++ be 4 rate

/-- Terms at the ends of their ranges and outside them, and the addresses that no guest has. -/
theorem test_hyps_TermsAreJudged :
    (∀ x ∈ [(0, 0), (60, 1000), (604800, 12500000)],
      (admitTerms? defaultSettings.guest (termParams station 1 x.1 x.2)).map (fun y => (y.duration, y.up, y.down, y.rate)) =
        some (x.1, 4294967295, 0, x.2)) ∧
    (∀ p ∈ [termParams station 1 59 0, termParams station 1 604801 0, termParams station 1 0 999, termParams station 1 0 12500001,
        termParams station 2 0 0, admitParams.take 25, termParams broadcast 1 0 0, termParams 0x02A7316C0FE0#48 1 0 0],
      Passes 64 p ready ∧ (p.length < 26 ∨ (served 64 p ready).guestAddressOk (stationAt p 0) = false ∨
        (admitTerms? (served 64 p ready).settings.guest p).isNone = true)) := by
  and_intros <;> decide +kernel

/-- A station that the Address Table holds, a Barred entry, and a full table with and without an Expired entry. -/
theorem test_hyps_GuestRequestsAreRefused :
    (let s := ready.setAddresses [(station.toNat, ⟨.ctl, 300, 0⟩)]
     Passes 64 admitParams s ∧ ((served 64 admitParams s).findAddress (stationAt admitParams 0)).isSome = true ∧
     Passes 66 stationBytes s ∧ ((served 66 stationBytes s).findAddress (stationAt stationBytes 0)).isSome = true) ∧
    (Passes 64 admitParams (guested .barred) ∧ (served 64 admitParams (guested .barred)).mode = .trading ∧
      ((served 64 admitParams (guested .barred)).findGuest (stationAt admitParams 0)).map (fun e => e.2.state) = some .barred) ∧
    (∀ st ∈ [GuestState.barred, .expired ⟨0, 0⟩],
      Passes 64 admitParams (crowd st) ∧ Passes 66 stationBytes (crowd st) ∧ (crowd st).mode = .trading ∧
      (crowd st).findAddress station = none ∧ (crowd st).findGuest station = none ∧ 1024 ≤ (crowd st).guests.table.length ∧
      (crowd st).guestAddressOk station = true ∧ ((crowd st).guests.table.get? 0).map (fun g => g.state) = some st ∧
      (crowd st).guests.table.all (fun kv => decide (kv.2.state = st)) = true) ∧
    (∀ op ∈ [65, 66, 67], ∀ p ∈ [bytes [], beStation broadcast], Passes op p ready ∧
      (p.length < 6 ∨ (served op p ready).guestAddressOk (stationAt p 0) = false)) ∧
    (Passes 67 stationBytes ready ∧ (served 67 stationBytes ready).guestAddressOk (stationAt stationBytes 0) = true ∧
      (served 67 stationBytes ready).findGuest (stationAt stationBytes 0) = none) := by
  and_intros <;> decide +kernel

/-- R176: a carry into the next day, and the last pair before the wrap. -/
theorem test_moments_carry :
    Moment.plus ⟨500, 86399999⟩ 1 = ⟨501, 0⟩ ∧ Moment.plus ⟨65535, 86399998⟩ 1 = ⟨65535, 86399999⟩ ∧
    Moment.plus ⟨65535, 86399999⟩ 1 = ⟨65535, 86399999⟩ := by decide

theorem test_hyps_GuestRequestsMakeEntries_guest_end :
    (Passes 65 (beStation broadcast) ready ∧ isGroup (stationAt (beStation broadcast) 0) = true) ∧
    (let p := beStation ready.managementAddress
     Passes 65 p ready ∧ stationAt p 0 = (served 65 p ready).managementAddress ∧ isGroup (stationAt p 0) = false) ∧
    (Passes 65 stationBytes ready ∧ isGroup station = false ∧ station ≠ (served 65 stationBytes ready).managementAddress ∧
      (∀ e ∈ (served 65 stationBytes ready).guests.table, e.2.station ≠ station)) ∧
    (∀ st ∈ [GuestState.barred, .expired ⟨0, 0⟩, .pending 1, .admitted none, .throttled (some ⟨0, 0⟩)],
      Passes 65 stationBytes (guested st) ∧ stationAt stationBytes 0 = station ∧
      ((served 65 stationBytes (guested st)).findGuest station).map (fun e => (e.1, e.2.state)) = some (0, st)) := by
  and_intros <;> decide +kernel

/-- The Closing Sweep at slot 1,023, or at 1,022, with an entry of a stamp and a state there. -/
def closing (slot stamp : Nat) (st : GuestState) : State :=
  ready.setGuests ⟨[(slot, ⟨station, some 0, st, ⟨0, 0⟩, stamp, 0, 0, none, none, 0, 0, 0⟩)], 1, some slot, 0, 0, 0⟩

/-- An entry with both buckets, both Remaining and its rate as given. -/
def policed (st : GuestState) (rate bucket : Nat) (left : Option Nat) : State :=
  (ready.setMode .trading).setGuestTable [(0, ⟨station, some 0, st, ⟨0, 0⟩, 0, 0, 0, left, left, rate, bucket, bucket⟩)]

/-- R174: at rate 0 the third frame of 1,536 bytes within a millisecond passes, the bucket being held full. -/
theorem test_unlimited_guest_passes :
    (((policed (.admitted none) 0 3072000 none).police 0 .up 1536).1.police 0 .up 1536).1.police 0 .up 1536 =
      (policed (.admitted none) 0 3072000 none, true) := by decide +kernel

theorem test_hyps_GuestsArePolicedAndRunOut :
    (∀ st ∈ [GuestState.pending 1, .admitted none, .throttled none, .expired ⟨0, 0⟩], ∀ rate ∈ [0, 1000], ∀ bucket ∈ [63999, 64000],
      let s := policed st rate bucket (some 64)
      s.findGuest station = some (0, ⟨station, some 0, st, ⟨0, 0⟩, 0, 0, 0, some 64, some 64, rate, bucket, bucket⟩) ∧
      s.guests.table.get? 0 = some ⟨station, some 0, st, ⟨0, 0⟩, 0, 0, 0, some 64, some 64, rate, bucket, bucket⟩) ∧
    ((policed (.admitted none) 0 0 (some 64)).settings.guest.floor ≠ 0 ∧ 63999 < 1000 * (ask 1 [0]).length ∧
      1000 * (ask 1 [0]).length ≤ 64000 ∧ (GuestState.admitted none ≠ .barred)) ∧
    ((policed (.admitted none) 0 3072000 none).findGuest station).map (fun e => e.2.upRemaining) = some none ∧
    (∀ up ∈ [ready, deaf], ((up.offer .guest .forwarded (ask 1 [0]) [.up]).2.taken = up.isUp .up)) ∧
    (let s := (closing 1023 0 (.pending 0)).setResetHeld true
     s.resetHeld = true ∧ (closing 1023 0 (.pending 0)).resetHeld = false ∧ ready.guests.sweep = none) ∧
    ((guested (.pending 0)).guests.table.get? 0).map (fun g => g.state) = some (.pending 0) ∧
    (((noon (guested (.expired ⟨500, 43200000⟩))).guests.table.get? 0).map (fun g => g.state) = some (.expired ⟨500, 43200000⟩) ∧
      Moment.le ⟨500, 43200000⟩ (noon (guested (.expired ⟨500, 43200000⟩))).clock.now = true) ∧
    (∀ st ∈ [GuestState.admitted (some ⟨500, 43200000⟩), .throttled (some ⟨500, 43200000⟩)],
      ((noon (guested st)).guests.table.get? 0).map (fun g => g.state) = some st) ∧
    (∀ slot ∈ [1022, 1023], ∀ st ∈ [GuestState.pending 0, .admitted none, .throttled none],
      (closing slot 0 st).guests.sweep = some slot ∧ ((closing slot 0 st).guests.table.get? slot).map (fun g => g.state) = some st ∧
      0 ≠ (closing slot 0 st).guests.closingNumber) ∧
    (∀ slot ∈ [1022, 1023], ∀ g ∈ (closing slot 1 (.pending 0)).guests.table.get? slot,
      g.stamp = (closing slot 1 (.pending 0)).guests.closingNumber) ∧
    (∀ g ∈ (closing 1023 0 .barred).guests.table.get? 1023, g.state = .barred) := by
  and_intros <;> decide +kernel

theorem test_hyps_ReadsChangeNothing :
    (∀ n ∈ [0, 7], Passes 1 (be 1 n) ready ∧ 1 ≤ (be 1 n).length ∧
      ((served 1 (be 1 n) ready).statusArea (fieldAt (be 1 n) 0 1)).isSome = true) ∧
    (Passes 1 [8#8] ready ∧ 8 ≤ fieldAt [8#8] 0 1) ∧
    (∀ n ∈ [0, 2], Passes 2 (be 1 n) ready ∧ ((served 2 (be 1 n) ready).counterArea (fieldAt (be 1 n) 0 1)).isSome = true) ∧
    (Passes 2 [3#8] ready ∧ 3 ≤ fieldAt [3#8] 0 1) ∧
    (∀ code ∈ [0, 5, 6, 10000000000000], let p := be 1 0 ++ be 6 code
     Passes 33 p stocked ∧ 7 ≤ p.length ∧ fieldAt p 0 1 = 0 ∧ fieldAt p 1 6 = code ∧
     codeOk code = (decide (code = 5) || decide (code = 6)) ∧
     (served 33 p stocked).findItem code = (if code = 5 then some (0, item) else none)) ∧
    (∀ k ∈ [0, 32767, 32768], let p := be 1 1 ++ be 2 k
     Passes 33 p stocked ∧ 3 ≤ p.length ∧ fieldAt p 0 1 = 1 ∧ fieldAt p 1 2 = k ∧
     (served 33 p stocked).items.get? k = (if k = 0 then some item else none)) ∧
    (∀ id ∈ [0, 8, 9], let p := be 1 0 ++ be 4 id
     Passes 52 p stocked ∧ 5 ≤ p.length ∧ fieldAt p 0 1 = 0 ∧ fieldAt p 1 4 = id ∧
     (served 52 p stocked).findLabel id = (if id = 9 then some (0, label) else none)) ∧
    (∀ i ∈ [0, 8191, 8192], let p := be 1 1 ++ be 2 i
     Passes 52 p stocked ∧ 3 ≤ p.length ∧ fieldAt p 0 1 = 1 ∧ fieldAt p 1 2 = i ∧
     (served 52 p stocked).labels.get? i = (if i = 0 then some label else none)) ∧
    (∀ n ∈ [station, other, broadcast, ready.managementAddress].map BitVec.toNat,
     let a := BitVec.ofNat 48 n; let p := be 1 0 ++ beStation a; let s := guested (.pending 1)
     Passes 68 p s ∧ 7 ≤ p.length ∧ fieldAt p 0 1 = 0 ∧ stationAt p 1 = a ∧
     isGroup a = decide (a = broadcast) ∧ ((served 68 p s).findGuest a).isSome = decide (a = station)) ∧
    (∀ k ∈ [0, 1023, 1024], let p := be 1 1 ++ be 2 k; let s := guested (.pending 1)
     Passes 68 p s ∧ 3 ≤ p.length ∧ fieldAt p 0 1 = 1 ∧ fieldAt p 1 2 = k ∧
     ((served 68 p s).guests.table.get? k).isSome = decide (k = 0)) := by
  and_intros <;> decide +kernel

/-- The part with one Event Counter at a count. -/
def counted (k : EventKind) (n : Nat) : State :=
  ready.onManagement (fun m => { m with events := { m.events with counters := m.events.counters.set (kindIndex k) n } })

theorem test_hyps_EventsSupervisionAndStatusLines :
    (let p := be 1 1 ++ be 2 4
     Passes 3 p (counted .cellDrop 5) ∧ 3 ≤ p.length ∧ kindOf? (fieldAt p 0 1) = some .cellDrop ∧
     fieldAt p 1 2 < (served 3 p (counted .cellDrop 5)).counter .cellDrop) ∧
    (let p := be 1 33 ++ be 2 5
     Passes 3 p (counted .timeSet 5) ∧ kindOf? (fieldAt p 0 1) = some .timeSet ∧
     (served 3 p (counted .timeSet 5)).counter .timeSet ≤ fieldAt p 1 2) ∧
    (∀ n ∈ [0, 34], Passes 3 (be 1 n ++ be 2 1) ready ∧ (fieldAt (be 1 n ++ be 2 1) 0 1 = 0 ∨ 33 < fieldAt (be 1 n ++ be 2 1) 0 1)) ∧
    Passes 4 [] ready ∧ Passes 112 [] ready ∧
    (ready.onManagement (fun m => { m with supervision := ⟨true, some 0, none⟩ })).management.supervision.timer = some 0 ∧
    (ready.management.supervision.present = true ∧ ready.isUp .ctl = true ∧ ready.loading = false ∧ (alone ready).noticesOpen = false) ∧
    (∀ n ∈ [0, 5], let s := (counted .zoneDeny n).setOwed .zoneDeny true
      s.noticesOpen = true ∧ s.isOwed .zoneDeny = true ∧ s.counter .zoneDeny = n ∧ s.takesCopy .control .ctl = true ∧
      s.roomFor .control 1 = true ∧ (∀ j ∈ allKinds, (kindIndex j).val < (kindIndex .zoneDeny).val → s.isOwed j = false) ∧
      cellsOf (buildMessage 0x62 (s.management.supervision.station.getD broadcast) s.managementAddress
        s.management.events.noticeNumber (be 1 3 ++ [0#8] ++ be 2 n)).length = 1) ∧
    (∀ j ∈ allKinds, ready.isOwed j = false) ∧
    ((imaged .loading ready).loading = true ∧ ready.settings.management.statusA.all = true ∧
      ready.settings.management.statusB.all = false) := by
  and_intros <;> decide +kernel

/-- The part with STATUS A's setting as given. -/
def lined (line : StatusLine) : State := tunedManagement (fun m => { m with statusA := line }) (batched .armed)

/-- R200: All and Any over true and false conditions, the empty set, and Loading. -/
theorem test_status_lines :
    ([lined ⟨⟨true, true, false, false, false, true⟩, true⟩, lined ⟨⟨true, true, true, false, false, false⟩, true⟩,
      lined ⟨⟨false, false, true, true, true, true⟩, false⟩, lined ⟨⟨false, false, true, true, true, false⟩, false⟩,
      lined ⟨⟨false, false, false, false, false, false⟩, true⟩, lined ⟨⟨false, false, false, false, false, false⟩, false⟩,
      imaged .loading (lined ⟨⟨true, true, false, false, false, true⟩, true⟩)].map State.statusA) =
      [true, false, true, false, false, false, false] := by decide +kernel

/-- A Queue Settings Write of one setting, a number of times over. -/
def settingParams (n code value : Nat) : List Byte :=
  be 1 n ++ be 1 0 ++ (List.replicate n (be 1 code ++ be 1 0 ++ be 1 0 ++ be 1 1 ++ be 8 value)).flatten

/-- The entries of such a write. -/
def settingEntriesOf (n code value : Nat) : List Entry := (piecesAt (settingParams n code value) 2 12 n).map entryOf

/-- The write stands ready. -/
abbrev Writes (n code value : Nat) (s : State) : Prop :=
  Passes 82 (settingParams n code value) s ∧ fieldAt (settingParams n code value) 0 1 = n ∧
  2 + 12 * n ≤ (settingParams n code value).length

theorem test_hyps_SettingsAreWrittenWhole :
    (∀ n ∈ [1, 64], Writes n 3 2049 (filled 6912) ∧
      (applyEntries (settingEntriesOf n 3 2049) defaultSettings).all (fun x =>
        !(served 82 (settingParams n 3 2049) (filled 6912)).addressesClash (settingEntriesOf n 3 2049) x &&
        !(served 82 (settingParams n 3 2049) (filled 6912)).overrideHeld (settingEntriesOf n 3 2049) x &&
        decide (x.queue.guestCap = 2049) && decide (shortfallSum x.queue (filled 6912).pool.inUse ≤ (filled 6912).freeCells)) = true ∧
      (applyEntries (settingEntriesOf n 3 2049) defaultSettings).isSome = true) ∧
    (Writes 1 3 8193 ready ∧ applyEntries (settingEntriesOf 1 3 8193) (served 82 (settingParams 1 3 8193) ready).settings = none) ∧
    (Writes 1 3 0 (holding .guest .forwarded 1) ∧
      (applyEntries (settingEntriesOf 1 3 0) defaultSettings).any (fun x =>
        !(holding .guest .forwarded 1).addressesClash (settingEntriesOf 1 3 0) x &&
        decide (x.queue.guestCap < (holding .guest .forwarded 1).pool.inUse.guest)) = true) ∧
    (Writes 1 1 1025 (filled 6912) ∧
      (applyEntries (settingEntriesOf 1 1 1025) defaultSettings).any (fun x =>
        !(filled 6912).addressesClash (settingEntriesOf 1 1 1025) x &&
        decide ((filled 6912).freeCells < shortfallSum x.queue (filled 6912).pool.inUse)) = true) := by
  and_intros <;> decide +kernel

/-- The write is taken: its values in range, no clash, the pool able to meet it, no override held. -/
abbrev TakenWrite (n code value : Nat) (s : State) : Prop :=
  Writes n code value s ∧ (applyEntries (settingEntriesOf n code value) (served 82 (settingParams n code value) s).settings).any
    (fun x => !(served 82 (settingParams n code value) s).addressesClash (settingEntriesOf n code value) x &&
      !(served 82 (settingParams n code value) s).overrideHeld (settingEntriesOf n code value) x &&
      decide (s.pool.inUse.guest ≤ x.queue.guestCap) && decide (shortfallSum x.queue s.pool.inUse ≤ s.freeCells)) = true

/-- Writes of the age time, the shaper rate, the source, P, the fault threshold, the heartbeat period and a notify enable, the
links in each state. -/
theorem test_hyps_TakenWritesReachTheBlocks :
    (∀ x ∈ [(10, 10), (10, 3600), (9, 0), (9, 12500000), (13, 0), (13, 1), (14, 0), (14, 16000), (17, 1), (17, 65535), (32, 0), (32, 255)],
      ∀ st ∈ [LinkState.off, .ready], TakenWrite 1 x.1 x.2 (linked ⟨st, 16, 0, [], [2], 0⟩)) ∧
    (let ps := be 1 1 ++ be 1 0 ++ (be 1 34 ++ be 1 33 ++ be 1 0 ++ be 1 1 ++ be 8 0)
     Passes 82 ps ready ∧ ((applyEntries ((piecesAt ps 2 12 1).map entryOf) ready.settings).map
       (fun x => x.management.notify[32])) = some false) := by
  and_intros <;> decide +kernel

/-- Counts out of range and a body short of its entries; a head-office station and an override that clash; an override that an
Address Table entry or a guest's entry holds. -/
theorem test_hyps_WritesAreRefused :
    (∀ n ∈ [0, 65], Passes 82 (be 1 n) ready ∧ fieldAt (be 1 n) 0 1 = n) ∧
    (Passes 82 ((settingParams 1 9 0).take 13) ready ∧ ((settingParams 1 9 0).take 13).length < 2 + 12 * 1) ∧
    (Writes 1 27 ready.managementAddress.toNat ready ∧
      (applyEntries (settingEntriesOf 1 27 ready.managementAddress.toNat) ready.settings).any
        (ready.addressesClash (settingEntriesOf 1 27 ready.managementAddress.toNat)) = true) ∧
    (let s := tunedManagement (fun m => { m with headOffice := some station }) ready
     Writes 1 33 station.toNat s ∧ (applyEntries (settingEntriesOf 1 33 station.toNat) s.settings).any
       (s.addressesClash (settingEntriesOf 1 33 station.toNat)) = true) ∧
    (∀ s ∈ [ready.setAddresses [(station.toNat, ⟨.ctl, 1, 0⟩)], guested .barred],
      Writes 1 33 station.toNat s ∧ (applyEntries (settingEntriesOf 1 33 station.toNat) s.settings).any (fun x =>
        !s.addressesClash (settingEntriesOf 1 33 station.toNat) x && s.overrideHeld (settingEntriesOf 1 33 station.toNat) x &&
        decide (s.pool.inUse.guest ≤ x.queue.guestCap) && decide (shortfallSum x.queue s.pool.inUse ≤ s.freeCells)) = true) := by
  and_intros <;> decide +kernel

/-- The part with every mark set and the notify enables of RECOVERY-LOSS (14) and of kind 1 clear, CTL Up or Down. -/
def owing (up : Bool) : State :=
  ((tunedManagement (fun m => { m with notify := (m.notify.set 13 false).set 0 false }) ready).setEvents
    { ready.events with owed := Vector.replicate 33 true }).setPort .ctl { powerOnPort with linkUp := up }

/-- Writes of notify enables: kind, value. -/
def notifyParams (xs : List (Nat × Nat)) : List Byte :=
  be 1 xs.length ++ be 1 0 ++ (xs.map (fun x => be 1 34 ++ be 1 x.1 ++ be 1 0 ++ be 1 1 ++ be 8 x.2)).flatten

/-- A kind written disabled, one written enabled and the kinds not written, the notices open or not. -/
theorem test_hyps_WritesOfNotifyEnables :
    ∀ up ∈ [false, true], ∀ xs ∈ [[(1, 0)], [(33, 1)], [(33, 0), (33, 1)]],
      let es := (piecesAt (notifyParams xs) 2 12 xs.length).map entryOf
      (owing up).noticesOpen = up ∧ (owing up).isOwed .recoveryLoss = true ∧ Passes 82 (notifyParams xs) (owing true) ∧
      es.map (fun e => (e.code, kindOf? e.sel1, e.value)) = xs.map (fun x => (34, kindOf? x.1, x.2)) ∧
      (applyEntries es (owing up).settings).isSome = true := by
  decide +kernel

/-- R190: a write disables one kind, and the mark of RECOVERY-LOSS, which it does not name, is kept though that kind is disabled
too; written disabled it is cleared; written disabled and then enabled in one write it is kept (log 61). -/
theorem test_marks_of_kinds_written_disabled :
    ([[(1, 0)], [(14, 0)], [(14, 0), (14, 1)]].map (fun xs =>
      let es := (piecesAt (notifyParams xs) 2 12 xs.length).map entryOf
      (applyEntries es (owing false).settings).map (fun x =>
        (((owing false).takeSettings es x).isOwed .cellDrop, ((owing false).takeSettings es x).isOwed .recoveryLoss,
          ((owing false).takeSettings es x).isOwed .timeSet)))) =
      [some (false, true, true), some (true, false, true), some (true, true, true)] := by decide +kernel

/-- R176, log 32: an entry that expires at the last moment before the wrap goes with the wrap, whether its own rows take its times
or the advance does; a moment earlier it is held. -/
theorem test_expiry_at_the_wrap :
    let s (ms : Nat) := (guested (.admitted (some ⟨65535, ms⟩))).setClock ⟨⟨65535, ms⟩, true⟩
    (after .millisecondAdvance (s 86399999)).guests.table = [] ∧
    (after .millisecondAdvance (after (.holdUntilReached 0) (after (.guestExpiry 0) (s 86399999)))).guests.table = [] ∧
    (after .millisecondAdvance (s 86399998)).guests.table.map (fun g => g.2.state) = [.expired ⟨65535, 86399999⟩] := by
  and_intros <;> decide +kernel

/-- What a write of P 0 with the threshold lowered leaves of a Ready link: Off, no LINK-FAULT (log 57); of the threshold alone:
Faulted, LINK-FAULT counted; of the external source: an Off link Silent. -/
theorem test_written_link_states :
    ([([(14, 0), (17, 1)], LinkState.ready), ([(17, 1)], .ready), ([(17, 2)], .silent), ([(13, 1)], .off)].map (fun x =>
      let ps := be 1 x.1.length ++ be 1 0 ++ (x.1.map (fun e => be 1 e.1 ++ be 1 0 ++ be 1 0 ++ be 1 1 ++ be 8 e.2)).flatten
      (nextOf (exec (.queueSettingsWrite .controller) (asked 82 ps (linked ⟨x.2, 1, 0, [], [], 0⟩)))).map
        (fun t => ((t.link .b0).state, t.counter .linkFault)))) =
      [some (.off, 0), some (.faulted, 1), some (.silent, 0), some (.silent, 0)] := by decide +kernel

/-- Another message, or another operation, stands first; a timed row's time has not come; a guarded row's state does not hold. -/
theorem test_hyps_RowsFindAnotherMessage :
    (∀ c ∈ [Instr.signOn 0, .signOff 15, .priceQuery 0, .saleRecord 0, .labelReport .b0, .stationStatus .b1, .transferAccept, .blockAck,
        .batchOpen, .batchPart, .batchClose, .endAck],
      (messageOf c).any (fun x => decide (frameKind (ask 1 [0]) ≠ x.2) &&
        decide ((ready.setHanded [⟨x.1, ask 1 [0]⟩]).firstHanded x.1 = some (ask 1 [0]))) = true) ∧
    ((asked 1 [0] ready).firstHanded .ctl = some (ask 1 [0]) ∧ requestOperation (ask 1 [0]) ≠ some 3 ∧
      requestOf (.clearEvents .controller) = some (.controller, 3)) := by
  and_intros <;> decide +kernel

theorem test_hyps_RowsWhoseTimeHasNotCome :
    ready.load.owner = none ∧ (loadOpen .controller 1).load.timer ≠ 0 ∧ (imaged .loading ready).loading = true ∧
    (tunedLabels (fun x => { x with external := true }) ready).settings.labels.external = true ∧
    (tunedLabels (fun x => { x with period := 0 }) ready).settings.labels.period = 0 ∧
    (ready.setPacer { resetPacer with timeLeft := 1 }).pacer.timeLeft ≠ 0 ∧ ready.settings.labels.external = false ∧
    (ready.setAddresses [(other.toNat, ⟨.ctl, 1, 0⟩)]).addresses.get? other.toNat = some ⟨.ctl, 1, 0⟩ ∧
    (∀ st ∈ [GuestState.pending 1, .admitted (some ⟨0, 1⟩), .throttled (some ⟨0, 1⟩), .admitted none, .expired ⟨0, 1⟩, .barred],
      ((guested st).guests.table.get? 0).map (fun g => g.state) = some st ∧ st ≠ .pending 0) ∧
    Moment.le ⟨0, 1⟩ ready.clock.now = false ∧
    ((awaiting 1 0).labels.get? 0 = some { label with state := .sent 299 1 } ∧ (awaiting 1 0).pacer.count = 4) ∧
    ((imaged .loading ready).superframeAtHand = false ∧ (ready.link .b0).state ≠ .ready ∧
      ((linked ⟨.ready, 0, 2, [], [], 0⟩).link .b0).missed ≠ 3) ∧
    (((linked ⟨.ready, 0, 0, List.replicate 512 0, [], 0⟩).link .b0).queue.length = 512 ∧
      (let s := bare none [(0, { label with state := .stale })]
       ∀ kv ∈ s.labels, kv.2.link = .b0 ∧ kv.2.state = .stale ∧ s.activeFor kv.2 = none)) := by
  and_intros <;> decide +kernel

theorem test_hyps_RowsWhoseStateDoesNotHold :
    ready.journal.scan = none ∧ (∀ b ∈ (batched .armed).batch, b.state ≠ .cutting ∧ b.state ≠ .withdrawing) ∧
    ready.guests.sweep = none ∧ ready.session.releaseNotice = false ∧
    ((waiting .receiving).session.state ≠ .draining ∧ (waiting .receiving).session.state ≠ .stopping) ∧
    ready.management.saving = none ∧ ready.management.restart = none ∧ ready.loading = false ∧
    ((nextOf (exec .lossOfSupply ready)).map (fun t => t.supplied) = some false) ∧ (ready.resetAssert none).resetHeld = true ∧
    ready.isUp .up = true ∧ deaf.isUp .up = false ∧ (ready.setPort .up { powerOnPort with sending := some 0 }).isUp .up = false ∧
    ((ready.setPort .up { powerOnPort with sending := some 0 }).port .up).sending.isSome = true ∧ (ready.port .up).sending = none := by
  and_intros <;> decide +kernel

/-- A kind whose counter is 0, its notify enabled or not. -/
def notifying (on : Bool) (s : State) : State := tunedManagement (fun m => { m with notify := Vector.replicate 33 on }) s

theorem test_hyps_EventsAreCounted :
    (notifying false ready).settings.management.notify[kindIndex .misplaced] = false ∧
    (let s := notifying true deaf
     s.counter .misplaced = 0 ∧ s.settings.management.notify[kindIndex .misplaced] = true ∧ s.noticesOpen = false) ∧
    (let s := notifying true ready
     s.counter .misplaced = 0 ∧ s.settings.management.notify[kindIndex .misplaced] = true ∧ s.noticesOpen = true ∧
     s.takesCopy .control .ctl = true ∧ s.roomFor .control (cellsOf (buildMessage 0x62
       (s.management.supervision.station.getD broadcast) s.managementAddress s.management.events.noticeNumber
       (be 1 ((kindIndex .misplaced).val + 1) ++ [0#8] ++ be 2 1)).length) = true ∧
     (s.count .misplaced).queue .ctl .control = [0] ∧ (s.count .misplaced).counter .misplaced = 1) := by
  and_intros <;> decide +kernel

theorem test_hyps_UnassignedRequests :
    (let s := asked 5 [] ready
     s.isUp (sourcePort .controller) = true ∧ s.firstHanded (sourcePort .controller) = some (ask 5 []) ∧
     frameKind (ask 5 []) = 0x60 ∧ requestOperation (ask 5 []) = some 5 ∧ 5 ∉ operationNumbers ∧
     envelopeOk (ask 5 []) = true) ∧
    ((asked 1 [] ready).firstHanded .ctl = some (ask 1 []) ∧ 1 ∈ operationNumbers ∧
      requestOperation (ask 1 []) = some 1) := by
  and_intros <;> decide +kernel

/-- Whether a number is a value of a setting of the part. -/
def taken? (code n : Nat) : Bool := (applyEntry ⟨code, 0, 0, 1, n⟩ ready.settings).isSome

/-- R35, 11.3: the bounds of the numbers, and the values beside them. -/
theorem test_setting_ranges :
    (∀ x ∈ [(1, 0, 2048), (2, 0, 512), (3, 0, 8192), (5, 1, 15), (6, 1, 15), (7, 1, 15), (8, 1, 15), (9, 8000, 125000000),
        (10, 10, 3600), (11, 1, 255), (12, 1, 16384), (13, 0, 1), (14, 16, 16383), (15, 0, 65535), (16, 1, 16),
        (17, 1, 65535), (18, 1, 4), (19, 1, 60)],
      (taken? x.1 x.2.1 && taken? x.1 x.2.2 && !taken? x.1 (x.2.2 + 1) &&
        (decide (x.2.1 = 0) || !taken? x.1 (x.2.1 - 1))) = true) ∧
    (∀ x ∈ [(20, 60, 604800), (21, 0, 4294967295), (22, 0, 4294967295), (23, 1000, 12500000), (24, 1000, 12500000),
        (25, 30, 3600), (26, 0, 65535), (28, 0, 1), (29, 0, 1), (30, 0, 1), (31, 0, 1), (32, 0, 255)],
      (taken? x.1 x.2.1 && taken? x.1 x.2.2 && !taken? x.1 (x.2.2 + 1) &&
        (decide (x.2.1 = 0) || !taken? x.1 (x.2.1 - 1))) = true) ∧
    (∀ code ∈ [9, 14, 20, 23], taken? code 0 = true) ∧ (∀ code ∈ [0, 4, 34, 36], taken? code 0 = false) := by
  and_intros <;> decide +kernel

/-- The values of the settings that are no plain numbers, at the ends of their lists. -/
theorem test_hyps_SettingsOfOtherKinds :
    (isGroup (BitVec.ofNat 48 281474976710655) = true ∧ isGroup (BitVec.ofNat 48 0) = false) ∧
    (kindOf? 1 = some .cellDrop ∧ kindOf? 33 = some .timeSet ∧ kindOf? 0 = none ∧ kindOf? 34 = none) ∧
    (allPorts[23]? = some (.b .b1) ∧ allPorts[24]? = none ∧ allClasses[4]? = some .guest ∧ allClasses[5]? = none) ∧
    (conditionsOf? 63).isSome = true ∧ conditionsOf? 64 = none ∧
    (applyEntry ⟨4, 255, 255, 1, 1024⟩ ready.settings).isSome = true ∧
    (applyEntry ⟨35, 1, 0, 1, 256 * 63 + 1⟩ ready.settings).isSome = true := by
  and_intros <;> decide +kernel

/-! ### Witnesses of the laws of blocks, labels and stages -/

/-- A session that has sent two blocks, the second waiting, over the four records, up to the Drain Mark. -/
def drainedTo (st : SessionState) : State :=
  (draining st []).setSession { (draining st []).session with
    outstanding := [⟨3, 1, 3, .offered, false⟩, ⟨4, 4, 1, .waiting 0, true⟩] }

/-- The part with its label Sent on a Ready link. -/
def inFlight : State := (labelled (.sent 299 0)).setLink .b0 ⟨.ready, 0, 1, [], [0], 0⟩

/-- The part with one staged item, at an index. -/
def staged (k : Nat) : State := ready.setItems [(k, { item with labels := [], floor := none, staged := some (300, ⟨false, false, false⟩) })]

/-- Two blocks outstanding over the four records, and none, in Draining and in Stopping. -/
theorem test_hyps_StepsKeepBlocksInOrder :
    (∀ s ∈ [drainedTo .draining, drainedTo .stopping, ready], s.JournalLegal ∧ s.BlocksInOrder) ∧
    (drainedTo .draining).session.outstanding.length = 2 ∧
    ∃ t, step ((drainedTo .draining).setPending [.blockAck]) = .next t := by
  and_intros <;> first | decide +kernel | exact ⟨_, rfl⟩

/-- A label Queued, Sent, Current and Unassigned, its link as the label's state asks. -/
theorem test_hyps_StepsKeepLabelWorkLegal :
    (∀ s ∈ [paced none .silent 0, stocked, inFlight], s.LabelWorkLegal) ∧
    ((inFlight.link .b0).sentOrder = [0] ∧ ((paced none .silent 0).link .b0).queue = [0]) ∧
    ∃ t, step (inFlight.setPending [.linkDown (.b .b0)]) = .next t := by
  and_intros <;> first | decide +kernel | exact ⟨_, rfl⟩

/-- An item with its label and the floor the label shows, and one with no label. -/
theorem test_hyps_StepsKeepShelvesAgree :
    (∀ s ∈ [stocked, bare none [(0, ⟨9, .b0, none, none, 0, .unassigned⟩)]], s.ShelvesAgree) ∧
    (stocked.items.map (fun kv => (kv.2.labels, kv.2.floor))) = [([9], some 280)] ∧
    ∃ t, step ((asked 50 (be 4 9) stocked).setPending [.labelRemove .controller]) = .next t := by
  and_intros <;> first | decide +kernel | exact ⟨_, rfl⟩

/-- A stage with an Open batch, one at the Sweep Position itself, and none without a batch. -/
theorem test_hyps_StepsKeepStagesWithBatch :
    (∀ s ∈ [stocked, (staged 32767).setBatch (some (batch .receiving)),
      (staged 32767).setBatch (some { batch .cutting with position := 32767 })], s.StagesWithBatch) ∧
    ∃ t, step (((staged 32767).setBatch (some { batch .cutting with position := 32767 })).setPending [.cutoverSweepStep]) = .next t := by
  and_intros <;> first | decide +kernel | exact ⟨_, rfl⟩

/-- A journal with a record, Exhausted. -/
def exhausted : State := recorded.setJournal { recorded.journal with nextSequence := none }

/-- A record being written, in a journal with room, one Exhausted, one under a scan, and while Loading. -/
theorem test_hyps_SoftRestartTearsARecord :
    (∀ s ∈ [recorded, scanning, imaged .loading recorded, exhausted],
      (restarting .soft s).management.restart = some ⟨.soft, none⟩) ∧
    ((restarting .soft recorded).journal.nextSequence = some 2 ∧ (restarting .soft recorded).loading = false ∧
      (restarting .soft recorded).journal.scan = none ∧ (restarting .soft recorded).journal.slots.length < 16384) ∧
    (restarting .soft scanning).journal.scan.isSome = true ∧ (restarting .soft (imaged .loading recorded)).loading = true ∧
    (restarting .soft exhausted).journal.nextSequence = none := by
  and_intros <;> decide +kernel

/-- A frame of two copies, both held by T0 or one of them, the frames' books kept; a block waiting while UP's Bulk queue holds an
entry; a restart pending on a response that CTL holds. -/
theorem test_hyps_LinksGoDownWithTheirFrames :
    (let s := (holding .till .forwarded 2).setPort (.t 0) { (holding .till .forwarded 2).port (.t 0) with sending := some 0 }
     s.isUp (.t 0) = true ∧ s.PoolLegal ∧
     ((s.port (.t 0)).sending.toList ++ [OutClass.control, .till, .label, .bulk, .guest].flatMap (s.queue (.t 0))) = [0, 0] ∧
     (s.pool.frames.get? 0).map (fun fr => fr.copies) = some 2) ∧
    ((holding .till .forwarded 2).PoolLegal ∧
      [OutClass.control, .till, .label, .bulk, .guest].flatMap ((holding .till .forwarded 2).queue (.t 0)) = [0]) ∧
    (let s := (waiting .draining).setQueue .up .bulk [0]
     s.isUp .up = true ∧ s.queue .up .bulk ≠ [] ∧ s.session.outstanding.any (fun b => decide (b.condition ≠ .offered)) = true) ∧
    (let s := ((holding .control .generated 1).setQueue .ctl .control [0]).onManagement
       (fun m => { m with restart := some ⟨.soft, some 0⟩ })
     s.isUp .ctl = true ∧ s.management.restart = some ⟨.soft, some 0⟩ ∧ 0 ∈ s.queue .ctl .control ∧
     (s.pool.frames.get? 0).map (fun fr => fr.origin) = some .generated) ∧
    (manned.isUp (.t 2) = true ∧ (guested .barred).isUp (.a 0) = true ∧ (paced none .ready 0).isUp (.b .b0) = true ∧
      aged.isUp .ctl = true) := by
  and_intros <;> decide +kernel

/-- A block that waits, and none, while a copy of a frame's last and of its first copy ends and while an entry may leave UP's Bulk
queue. -/
theorem test_hyps_ReleasesAreNoticed :
    (∀ copies ∈ [1, 2], let s := (waiting .draining).setPool (holding .till .forwarded copies).pool
      let u := s.setPort (.t 0) { powerOnPort with linkUp := true, sending := some 0 }
      (u.port (.t 0)).sending = some 0 ∧ (u.pool.frames.get? 0).map (fun fr => fr.copies) = some copies ∧
      u.session.outstanding.any (fun b => decide (b.condition ≠ .offered)) = true) ∧
    (∀ b ∈ (draining .draining [1, 2]).session.outstanding, b.condition = .offered) ∧
    (∀ rate ∈ [0, 8000], let s := (turned .up .bulk false 0 rate 0).setSession (waiting .draining).session
      s.isUp .up = true ∧ (s.port .up).sending = none ∧ s.queue .up .bulk = [0] ∧
      s.session.outstanding.any (fun b => decide (b.condition ≠ .offered)) = true ∧
      (after (.transmitStart .up) s).queue .up .bulk = (if rate = 0 then [] else [0])) ∧
    (∃ t, exec (.transmitStart .up) (turned .up .bulk false 0 0 0) = .next t) := by
  and_intros <;> first | decide +kernel | exact ⟨_, rfl⟩

end Sys2Proof.Tests
end

/-! PROOFS. The Cell Pool (chapter 3, R33 to R41): the three properties of R34 hold at every step. First the arithmetic of the
books and what storing and releasing a frame does to them; then, block by block, that no operation breaks them. -/

namespace Sys2Proof.CellPool

-- The proofs are checked one after another: the stacks of many threads do not fit in the check's memory limit.
set_option Elab.async false

open Sys2Proof.Machine Sys2Proof.Laws

/-! ### Sums over a keyed table -/

section Tables

variable {α : Type} {k : Nat} {t : Table α}

/-- A key above all others goes to the end. -/
theorem put_eq_append (v : α) (h : ∀ x ∈ t, x.1 < k) : Table.put k v t = t ++ [(k, v)] := by
  induction t with
  | nil => rfl
  | cons y t ih =>
    have hy : y.1 < k := h y (by simp)
    simp [Table.put, Nat.lt_asymm hy, Nat.ne_of_gt hy, ih (fun x hx => h x (by simp [hx]))]

/-- A record that weighs what the old one weighed leaves the sum. -/
theorem sum_put_of_get? {v w : α} (f : α → Nat) (hw : Table.wf t) (hg : t.get? k = some v) (hf : f w = f v) :
    ((Table.put k w t).map (fun kv => f kv.2)).sum = (t.map (fun kv => f kv.2)).sum := by
  induction t with
  | nil => cases hg
  | cons y t ih =>
    obtain ⟨hhead, htail⟩ := List.pairwise_cons.1 hw
    by_cases hk : y.1 = k
    · have hv : y.2 = v := by simpa [Table.get?, hk] using hg
      simp [Table.put, hk, hf, hv]
    · have hg' : Table.get? t k = some v := by simpa [Table.get?, hk] using hg
      have hlt : y.1 < k := hhead _ (mem_of_get? hg')
      simp [Table.put, Nat.lt_asymm hlt, Ne.symm hk, ih htail hg']

/-- A deleted record takes its weight with it. -/
theorem sum_del_of_get? {v : α} (f : α → Nat) (hg : t.get? k = some v) :
    ((Table.del k t).map (fun kv => f kv.2)).sum + f v = (t.map (fun kv => f kv.2)).sum := by
  induction t with
  | nil => cases hg
  | cons y t ih =>
    by_cases hk : y.1 = k
    · have hv : y.2 = v := by simpa [Table.get?, hk] using hg
      simp [Table.del, hk, hv, Nat.add_comm]
    · have hg' : Table.get? t k = some v := by simpa [Table.get?, hk] using hg
      simp [Table.del, hk, ← ih hg', Nat.add_assoc]

end Tables

/-! ### The books (R33, R34) -/

theorem total_set_add (p : PerClass Nat) (c : OutClass) (n : Nat) : (p.set c (p.get c + n)).total = p.total + n := by
  cases c <;> simp only [PerClass.get, PerClass.set, PerClass.total] <;> omega

theorem total_set_sub {p : PerClass Nat} {c : OutClass} {n : Nat} (h : n ≤ p.get c) :
    (p.set c (p.get c - n)).total + n = p.total := by
  cases c <;> simp only [PerClass.get, PerClass.set, PerClass.total] at h ⊢ <;> omega

theorem total_eq_sum (p : PerClass Nat) : (allClasses.map p.get).sum = p.total := by
  simp [allClasses, PerClass.get, PerClass.total, Nat.add_assoc]

/-- Cells that a class gives back raise the shortfalls by no more than they are. -/
theorem shortfallSum_set_sub (q : QueueSettings) (p : PerClass Nat) (c : OutClass) (n : Nat) :
    shortfallSum q (p.set c (p.get c - n)) ≤ shortfallSum q p + n := by
  cases c <;> simp only [PerClass.get, PerClass.set, shortfallSum] <;> omega

/-- With nothing in use the shortfalls are the reserves. -/
theorem shortfallSum_zero (q : QueueSettings) : shortfallSum q ⟨0, 0, 0, 0, 0⟩ = q.tillReserve + q.controlReserve := rfl

/-- Reserves whose shortfalls the free cells cover fit in the pool. -/
theorem reserves_le_of_covered {q : QueueSettings} {p : PerClass Nat} (ht : p.total ≤ 8192)
    (h : shortfallSum q p ≤ 8192 - p.total) : q.tillReserve + q.controlReserve ≤ 8192 := by
  simp only [shortfallSum, PerClass.total] at h ht
  omega

/-- The cells a class holds of one stored frame. -/
def cellsIn (c : OutClass) (f : StoredFrame) : Nat := if f.cls = c then cellsOf f.bytes.length else 0

theorem heldCells_eq (s : State) (c : OutClass) : s.heldCells c = (s.pool.frames.map (fun kv => cellsIn c kv.2)).sum := rfl

theorem mem_allClasses (c : OutClass) : c ∈ allClasses := by cases c <;> decide

/-- An empty pool is legal where the reserves fit in it. -/
theorem poolLegal_of_empty {s : State} (hf : s.pool.frames = []) (hu : s.pool.inUse = ⟨0, 0, 0, 0, 0⟩)
    (hr : s.settings.queue.tillReserve + s.settings.queue.controlReserve ≤ 8192) : s.PoolLegal := by
  have hfree : s.freeCells = 8192 := by rw [State.freeCells, hu]; rfl
  refine ⟨?_, ?_, ?_, fun c _ => ?_, ?_, ?_, fun _ => hf⟩
  · rw [hu]; decide
  · rw [hu]; exact Nat.zero_le _
  · rw [hu, hfree, shortfallSum_zero]; exact hr
  · rw [hu, heldCells_eq, hf]; cases c <;> rfl
  · rw [hf]; exact wf_nil
  · simp [hf]

/-- While nothing is stored nothing is in use. -/
theorem inUse_of_empty {s : State} (h : s.PoolLegal) (hf : s.pool.frames = []) : s.pool.inUse = ⟨0, 0, 0, 0, 0⟩ := by
  obtain ⟨-, -, -, hheld, -⟩ := h
  have hzero : ∀ c, s.pool.inUse.get c = 0 := fun c => by
    rw [hheld c (mem_allClasses c), heldCells_eq, hf]; rfl
  generalize s.pool.inUse = p at hzero
  obtain ⟨control, till, label, bulk, guest⟩ := p
  simp only [PerClass.mk.injEq]
  exact ⟨hzero .control, hzero .till, hzero .label, hzero .bulk, hzero .guest⟩

/-! ### The ranges of the reserves and of the Guest cap (R34, R35) -/

/-- The reserves and the Guest cap of some settings lie in their ranges (R34). -/
def ReservesOk (x : Settings) : Prop :=
  x.queue.tillReserve ≤ 2048 ∧ x.queue.controlReserve ≤ 512 ∧ x.queue.guestCap ≤ 8192

theorem reservesOk_default : ReservesOk defaultSettings := ⟨by decide, by decide, by decide⟩

/-- Settings that all lie in their ranges, as those of a Good image do. -/
theorem reservesOk_of_inRange {x : Settings} (h : x.inRange = true) : ReservesOk x := by
  simp only [Settings.inRange, QueueSettings.inRange, Bool.and_eq_true, decide_eq_true_eq] at h
  obtain ⟨⟨⟨⟨⟨⟨⟨hqueue, -⟩, -⟩, -⟩, -⟩, -⟩, -⟩, -⟩ := h
  obtain ⟨⟨⟨⟨⟨⟨⟨⟨⟨⟨-, -⟩, htill⟩, hcontrol⟩, hguest⟩, -⟩, -⟩, -⟩, -⟩, -⟩, -⟩ := hqueue
  exact ⟨htill, hcontrol, hguest⟩

theorem le_of_between {lo hi n : Nat} (h : between lo hi n = true) : n ≤ hi := by
  simp only [between, Bool.and_eq_true, decide_eq_true_eq] at h
  exact h.2

theorem numberEntry_reservesOk {e : Entry} {ok : Nat → Bool} {put : Nat → Settings} {y : Settings}
    (h : numberEntry e ok put = some y) (hput : ∀ n, ok n = true → ReservesOk (put n)) : ReservesOk y := by
  unfold numberEntry at h
  split at h
  · rename_i hc
    obtain ⟨-, -, -, hok⟩ := hc
    cases h
    exact hput _ hok
  · cases h

theorem stationEntry_reservesOk {e : Entry} {put : Option Station → Settings} {y : Settings}
    (h : stationEntry e put = some y) (hput : ∀ a, ReservesOk (put a)) : ReservesOk y := by
  unfold stationEntry at h
  repeat' split at h
  all_goals cases h
  all_goals exact hput _

theorem limitEntry_reservesOk {e : Entry} {x y : Settings} (hx : ReservesOk x) (h : limitEntry e x = some y) :
    ReservesOk y := by
  unfold limitEntry at h
  repeat' split at h
  all_goals cases h
  exact hx

theorem notifyEntry_reservesOk {e : Entry} {x y : Settings} (hx : ReservesOk x) (h : notifyEntry e x = some y) :
    ReservesOk y := by
  unfold notifyEntry at h
  repeat' split at h
  all_goals cases h
  exact hx

theorem statusLineEntry_reservesOk {e : Entry} {x y : Settings} (hx : ReservesOk x) (h : statusLineEntry e x = some y) :
    ReservesOk y := by
  unfold statusLineEntry at h
  dsimp only at h
  repeat' split at h
  all_goals cases h
  all_goals exact hx

/-- An entry leaves the reserves and the Guest cap in their ranges. -/
theorem reservesOk_applyEntry {e : Entry} {x y : Settings} (hx : ReservesOk x) (hy : applyEntry e x = some y) :
    ReservesOk y := by
  have ⟨htill, hcontrol, hguest⟩ := hx
  unfold applyEntry at hy
  dsimp only at hy
  split at hy
  · exact numberEntry_reservesOk hy (fun n hn => ⟨le_of_between hn, hcontrol, hguest⟩)
  · exact numberEntry_reservesOk hy (fun n hn => ⟨htill, le_of_between hn, hguest⟩)
  · exact numberEntry_reservesOk hy (fun n hn => ⟨htill, hcontrol, le_of_between hn⟩)
  all_goals first
    | exact numberEntry_reservesOk hy (fun _ _ => hx)
    | exact stationEntry_reservesOk hy (fun _ => hx)
    | exact limitEntry_reservesOk hx hy
    | exact notifyEntry_reservesOk hx hy
    | exact statusLineEntry_reservesOk hx hy
    | cases hy

theorem reservesOk_applyEntries {es : List Entry} {x y : Settings} (hx : ReservesOk x) (hy : applyEntries es x = some y) :
    ReservesOk y := by
  induction es generalizing x with
  | nil => cases hy; exact hx
  | cons e es ih =>
    obtain ⟨z, hz, hy⟩ := Option.bind_eq_some_iff.1 hy
    exact ih (reservesOk_applyEntry hx hz) hy

/-- A write that passes R35's checks has a cap that the guests' cells keep and reserves that the free cells cover. -/
theorem judgeSettings_ok {t : State} {es : List Entry} {x : Settings} (h : t.judgeSettings es = .ok x) :
    applyEntries es t.settings = some x ∧ t.pool.inUse.guest ≤ x.queue.guestCap ∧
    shortfallSum x.queue t.pool.inUse ≤ t.freeCells := by
  unfold State.judgeSettings at h
  split at h
  · cases h
  · rename_i y hy
    split at h
    · cases h
    · split at h
      · cases h
      · rename_i hguest
        split at h
        · cases h
        · rename_i hshort
          split at h
          · cases h
          · cases h
            exact ⟨hy, Nat.le_of_not_lt hguest, Nat.le_of_not_lt hshort⟩

/-! ### What one step may do to the pool and the reserves -/

/-- `t` has come from `s` without breaking a property of the pool or a range of the reserves. -/
structure KeepsPool (s t : State) : Prop where
  legal : s.PoolLegal → t.PoolLegal
  inRange : s.ReservesInRange → t.ReservesInRange

namespace KeepsPool

variable {s t : State}

theorem refl (s : State) : KeepsPool s s := ⟨id, id⟩

theorem trans {u : State} (h : KeepsPool s t) (k : KeepsPool t u) : KeepsPool s u :=
  ⟨fun x => k.legal (h.legal x), fun x => k.inRange (h.inRange x)⟩

/-- A change outside the pool and the settings, after which the image is Loading only if it was. -/
theorem of_loading {u : State} (h : KeepsPool s t) (hp : u.pool = t.pool) (hs : u.settings = t.settings)
    (hl : u.loading = true → t.loading = true) : KeepsPool s u := by
  refine h.trans ⟨?_, ?_⟩
  · rintro ⟨htotal, hcap, hshort, hheld, hwf, hrefs, hload⟩
    have hheld' : ∀ c ∈ allClasses, u.pool.inUse.get c = u.heldCells c := fun c hc => by
      rw [heldCells_eq, hp]; exact hheld c hc
    refine ⟨?_, ?_, ?_, hheld', ?_, ?_, fun x => ?_⟩
    · rw [hp]; exact htotal
    · rw [hp, hs]; exact hcap
    · rw [State.freeCells, hp, hs]; exact hshort
    · rw [hp]; exact hwf
    · rw [hp]; exact hrefs
    · rw [hp]; exact hload (hl x)
  · intro x; show u.ReservesInRange; unfold State.ReservesInRange; rw [hs]; exact x

/-- A change outside the pool, the settings and the state of the image. -/
theorem same {u : State} (h : KeepsPool s t) (hp : u.pool = t.pool := by rfl) (hs : u.settings = t.settings := by rfl)
    (hi : u.management.image = t.management.image := by rfl) : KeepsPool s u :=
  h.of_loading hp hs (fun x => by rw [← x, State.loading, State.loading, hi])

/-! ### Fields outside the pool -/

theorem setPort (h : KeepsPool s t) (p : PortId) (v : PortState) : KeepsPool s (t.setPort p v) := h.same

theorem setLink (h : KeepsPool s t) (l : LinkId) (r : LinkRecord) : KeepsPool s (t.setLink l r) := h.same

theorem setLabels (h : KeepsPool s t) (v : Table Label) : KeepsPool s (t.setLabels v) := h.same

theorem setPacer (h : KeepsPool s t) (v : Pacer) : KeepsPool s (t.setPacer v) := h.same

theorem setClock (h : KeepsPool s t) (v : Clock) : KeepsPool s (t.setClock v) := h.same

theorem setSchedule (h : KeepsPool s t) (v : Schedule) : KeepsPool s (t.setSchedule v) := h.same

theorem setBatch (h : KeepsPool s t) (v : Option Batch) : KeepsPool s (t.setBatch v) := h.same

theorem setLastVerdict (h : KeepsPool s t) (v : Option LastVerdict) : KeepsPool s (t.setLastVerdict v) := h.same

theorem setLoad (h : KeepsPool s t) (v : LoadTransaction) : KeepsPool s (t.setLoad v) := h.same

theorem setTills (h : KeepsPool s t) (v : Table Till) : KeepsPool s (t.setTills v) := h.same

theorem setHanded (h : KeepsPool s t) (v : List Handed) : KeepsPool s (t.setHanded v) := h.same

theorem setFreeUsed (h : KeepsPool s t) (v : Nat) : KeepsPool s (t.setFreeUsed v) := h.same

theorem setAddresses (h : KeepsPool s t) (v : Table AddressEntry) : KeepsPool s (t.setAddresses v) := h.same

theorem onGuests (h : KeepsPool s t) (f : GuestUnit → GuestUnit) : KeepsPool s (t.onGuests f) := h.same

theorem putGuest (h : KeepsPool s t) (slot : Nat) (g : Guest) : KeepsPool s (t.putGuest slot g) := h.same

theorem startWithdraw (h : KeepsPool s t) (b : Batch) : KeepsPool s (t.startWithdraw b) := h.same

theorem onJournal (h : KeepsPool s t) (f : Journal → Journal) : KeepsPool s (t.onJournal f) := h.same

theorem onSession (h : KeepsPool s t) (f : Session → Session) : KeepsPool s (t.onSession f) := h.same

theorem startTimer (h : KeepsPool s t) : KeepsPool s t.startTimer := h.same

/-- The shaper's bucket is not of the pool's books. -/
theorem setBucket (h : KeepsPool s t) (b : Nat) : KeepsPool s (t.setPool { t.pool with bucket := b }) :=
  h.trans ⟨id, id⟩

/-- A list of operations none of which breaks anything. -/
theorem foldl {β : Type} {f : State → β → State} (h : KeepsPool s t) (l : List β)
    (hf : ∀ x ∈ l, ∀ t, KeepsPool s t → KeepsPool s (f t x)) : KeepsPool s (l.foldl f t) := by
  induction l generalizing t with
  | nil => exact h
  | cons x l ih => exact ih (hf x (by simp) t h) (fun y hy => hf y (by simp [hy]))

/-! ### Admission (R36) -/

/-- The pool once a frame is stored, before its copies join their queues. -/
theorem storeRecord (h : KeepsPool s t) {c : OutClass} (f : StoredFrame) (hc : f.cls = c) (hload : t.loading = false)
    (hroom : t.roomFor c (cellsOf f.bytes.length) = true) :
    KeepsPool s (t.setPool { t.pool with
      frames := Table.put t.pool.nextRef f t.pool.frames
      nextRef := t.pool.nextRef + 1
      inUse := t.pool.inUse.set c (t.pool.inUse.get c + cellsOf f.bytes.length) }) := by
  refine h.trans ⟨?_, id⟩
  rintro ⟨htotal, hcap, -, hheld, hwf, hrefs, -⟩
  have hfree : t.freeCells = 8192 - t.pool.inUse.total := rfl
  simp only [State.roomFor, Bool.and_eq_true, Bool.or_eq_true, decide_eq_true_eq] at hroom
  obtain ⟨hguest, hfit⟩ := hroom
  refine ⟨?_, ?_, ?_, ?_, wf_put hwf, ?_, fun x => ?_⟩
  · show (t.pool.inUse.set c _).total ≤ 8192
    rw [total_set_add]; omega
  · show (t.pool.inUse.set c (t.pool.inUse.get c + _)).guest ≤ t.settings.queue.guestCap
    cases c with
    | guest => exact hguest.resolve_left (fun x => x rfl)
    | control | till | label | bulk => exact hcap
  · show shortfallSum t.settings.queue (t.pool.inUse.set c _) ≤ 8192 - (t.pool.inUse.set c _).total
    rw [total_set_add]; omega
  · intro d hd
    show (t.pool.inUse.set c _).get d = ((Table.put _ _ t.pool.frames).map (fun kv => cellsIn d kv.2)).sum
    rw [put_eq_append _ hrefs, perClass_get_set, List.map_append, List.sum_append, ← heldCells_eq, ← hheld d hd]
    by_cases hdc : d = c
    · simp [hdc, cellsIn, hc]
    · simp [hdc, cellsIn, hc, Ne.symm hdc]
  · show ∀ kv ∈ Table.put _ _ t.pool.frames, kv.1 < t.pool.nextRef + 1
    intro kv hkv
    rcases mem_put hkv with rfl | hkv
    · exact Nat.lt_succ_self _
    · exact Nat.lt_succ_of_lt (hrefs kv hkv)
  · exact absurd (show t.loading = true from x) (by simp [hload])

theorem storeFrame (h : KeepsPool s t) {c : OutClass} {bytes : List Byte} (hload : t.loading = false)
    (hroom : t.roomFor c (cellsOf bytes.length) = true) (o : Origin) (accepting : List PortId) :
    KeepsPool s (t.storeFrame c o bytes accepting) :=
  (h.storeRecord ⟨c, accepting.length, o, bytes⟩ rfl hload hroom).foldl accepting (fun _ _ _ hu => hu.same)

/-- Admission stores a frame only where R36 finds room for it. -/
theorem admitFrame (h : KeepsPool s t) (c : OutClass) (o : Origin) (bytes : List Byte) (targets : List PortId) :
    KeepsPool s (t.admitFrame c o bytes targets).1 := by
  unfold State.admitFrame
  dsimp only
  split
  · exact h
  · rename_i hload
    split
    · exact h
    · split
      · rename_i hroom
        exact h.storeFrame (by simpa using hload) hroom o _
      · exact h

/-! ### Counting and notices (R189, R190) -/

theorem offerNotice (h : KeepsPool s t) (k : EventKind) : KeepsPool s (t.offerNotice k).1 :=
  (h.admitFrame .control .generated (t.noticeBytes k) [.ctl]).same

theorem countWith (h : KeepsPool s t) (fuel : Nat) (k : EventKind) (n : Nat) : KeepsPool s (State.countWith fuel k n t) := by
  induction fuel generalizing k n t with
  | zero => exact h.same
  | succ fuel ih =>
    have hr : KeepsPool s (t.raise k n) := h.same
    unfold State.countWith
    split
    · split
      · exact (hr.offerNotice k).foldl _ (fun d _ u hu => ih hu d 1)
      · exact h.same
    · exact hr

theorem countBy (h : KeepsPool s t) (k : EventKind) (n : Nat) : KeepsPool s (t.countBy k n) := h.countWith 4 k n

theorem count (h : KeepsPool s t) (k : EventKind) : KeepsPool s (t.count k) := h.countBy k 1

theorem countAll (h : KeepsPool s t) (ks : List EventKind) : KeepsPool s (t.countAll ks) :=
  h.foldl ks (fun k _ _ hu => hu.count k)

theorem offerOwedFrom (h : KeepsPool s t) (ks : List EventKind) : KeepsPool s (State.offerOwedFrom ks t) := by
  induction ks generalizing t with
  | nil => exact h
  | cons k ks ih =>
    have hc : KeepsPool s (t.setOwed k false) := h.same
    unfold State.offerOwedFrom
    split
    · dsimp only
      split
      · exact ih hc
      · exact ih ((hc.offerNotice k).countAll _)
    · exact ih h

theorem offerOwed (h : KeepsPool s t) : KeepsPool s t.offerOwed := by
  unfold State.offerOwed
  split
  · exact h.offerOwedFrom _
  · exact h

theorem offerOwedIfOpened (h : KeepsPool s t) (before : Bool) : KeepsPool s (t.offerOwedIfOpened before) := by
  unfold State.offerOwedIfOpened
  split
  · exact h
  · exact h.offerOwed

/-! ### Frames the part builds (R204) -/

theorem offer (h : KeepsPool s t) (c : OutClass) (o : Origin) (bytes : List Byte) (targets : List PortId) :
    KeepsPool s (t.offer c o bytes targets).1 := (h.admitFrame c o bytes targets).countAll _

theorem send (h : KeepsPool s t) (kind : Nat) (p : PortId) (dst : Station) (tag : Nat) (body : List Byte) :
    KeepsPool s (t.send kind p dst tag body).1 := h.offer _ _ _ _

theorem drawStation (h : KeepsPool s t) : KeepsPool s t.drawStation := by
  unfold State.drawStation
  split
  · exact h.same
  · exact h

theorem sendHeadOffice (h : KeepsPool s t) (kind tag : Nat) (body : List Byte) :
    KeepsPool s (t.sendHeadOffice kind tag body) := (h.send _ _ _ _ _).drawStation

/-! ### Release (R40, R41) -/

theorem noticeRelease (h : KeepsPool s t) : KeepsPool s t.noticeRelease := by
  unfold State.noticeRelease
  split
  · exact h.same
  · exact h

theorem copyEnded (h : KeepsPool s t) (ref : Nat) : KeepsPool s (t.copyEnded ref) := by
  unfold State.copyEnded
  split
  · split
    · exact h.same
    · exact h
  · exact h

/-- A frame whose last copy has ended gives its cells back. -/
theorem releaseFrame (h : KeepsPool s t) {ref : Nat} {f : StoredFrame} (hf : t.pool.frames.get? ref = some f) :
    KeepsPool s (t.setPool { t.pool with
      frames := Table.del ref t.pool.frames
      inUse := t.pool.inUse.set f.cls (t.pool.inUse.get f.cls - cellsOf f.bytes.length) }) := by
  refine h.trans ⟨?_, id⟩
  rintro ⟨htotal, hcap, hshort, hheld, hwf, hrefs, hload⟩
  have hsum : ∀ d, ((Table.del ref t.pool.frames).map (fun kv => cellsIn d kv.2)).sum + cellsIn d f = t.heldCells d :=
    fun d => sum_del_of_get? (cellsIn d) hf
  have hle : cellsOf f.bytes.length ≤ t.pool.inUse.get f.cls := by
    have := hsum f.cls
    rw [← hheld _ (mem_allClasses _), cellsIn, if_pos rfl] at this
    omega
  have htotal' := total_set_sub hle
  have hshort' := shortfallSum_set_sub t.settings.queue t.pool.inUse f.cls (cellsOf f.bytes.length)
  refine ⟨?_, ?_, ?_, ?_, wf_del hwf, fun kv hkv => hrefs kv (mem_del hkv), fun x => ?_⟩
  · show (t.pool.inUse.set f.cls _).total ≤ 8192
    omega
  · show (t.pool.inUse.set f.cls _).get .guest ≤ t.settings.queue.guestCap
    rw [perClass_get_set]
    split
    · rename_i hg; rw [← hg]; exact (Nat.sub_le _ _).trans hcap
    · exact hcap
  · show shortfallSum t.settings.queue (t.pool.inUse.set f.cls _) ≤ 8192 - (t.pool.inUse.set f.cls _).total
    have : shortfallSum t.settings.queue t.pool.inUse ≤ 8192 - t.pool.inUse.total := hshort
    omega
  · intro d hd
    show (t.pool.inUse.set f.cls _).get d = ((Table.del ref t.pool.frames).map (fun kv => cellsIn d kv.2)).sum
    have hd' := hsum d
    rw [← hheld d hd] at hd'
    rw [perClass_get_set]
    split
    · rename_i hdc; subst hdc; rw [cellsIn, if_pos rfl] at hd'; omega
    · rename_i hdc; rw [cellsIn, if_neg (Ne.symm hdc)] at hd'; omega
  · show Table.del ref t.pool.frames = []
    rw [hload x]; rfl

/-- A frame that loses a copy and keeps another holds what it held. -/
theorem lowerCopies (h : KeepsPool s t) {ref : Nat} {f : StoredFrame} (hf : t.pool.frames.get? ref = some f) (n : Nat) :
    KeepsPool s (t.setPool { t.pool with frames := Table.put ref { f with copies := n } t.pool.frames }) := by
  refine h.trans ⟨?_, id⟩
  rintro ⟨htotal, hcap, hshort, hheld, hwf, hrefs, hload⟩
  refine ⟨htotal, hcap, hshort, fun c hc => ?_, wf_put hwf, fun kv hkv => ?_, fun x => ?_⟩
  · have hsum := sum_put_of_get? (w := ⟨f.cls, n, f.origin, f.bytes⟩) (cellsIn c) hwf hf rfl
    exact (hheld c hc).trans hsum.symm
  · rcases mem_put hkv with rfl | hkv
    · exact hrefs (ref, f) (mem_of_get? hf)
    · exact hrefs kv hkv
  · rw [hload x] at hf; cases hf

/-- The end of a copy returns cells, or none (R33, R40). -/
theorem endCopy (h : KeepsPool s t) (ref : Nat) : KeepsPool s (t.endCopy ref) := by
  unfold State.endCopy
  split
  · exact h
  · rename_i f hf
    have hp : KeepsPool s (if f.copies ≤ 1 then
        (t.setPool { t.pool with
          frames := Table.del ref t.pool.frames
          inUse := t.pool.inUse.set f.cls (t.pool.inUse.get f.cls - cellsOf f.bytes.length) }).noticeRelease
      else t.setPool { t.pool with frames := Table.put ref { f with copies := f.copies - 1 } t.pool.frames }) := by
      split
      · exact (h.releaseFrame hf).noticeRelease
      · exact h.lowerCopies hf _
    dsimp only
    split
    · exact hp.copyEnded ref
    · exact hp

theorem discardQueues (h : KeepsPool s t) (p : PortId) : KeepsPool s (t.discardQueues p) := by
  have hport : KeepsPool s (t.setPort p { t.port p with queues := emptyQueues, sending := none, drr := resetDrr }) := h.same
  have hends := hport.foldl (t.port p).copies (fun r _ _ hu => hu.endCopy r)
  unfold State.discardQueues
  dsimp only
  split
  · exact hends.noticeRelease
  · exact hends

/-- A row that serves a message it takes. -/
theorem takeMessage {serve : List Byte → State → State} (h : KeepsPool s t) (p : PortId) (kind : Nat)
    (hserve : ∀ f u, KeepsPool s u → KeepsPool s (serve f u)) : KeepsPool s (takeMessage p kind serve t) := by
  unfold Machine.takeMessage
  split
  · split
    · exact hserve _ _ h.same
    · exact h
  · exact h

/-! ### The Label Engine (chapter 6) -/

theorem toWork (h : KeepsPool s t) (i : Nat) (l : Label) (attempts : Nat) (counted : Bool) :
    KeepsPool s (t.toWork i l attempts counted) := by
  have hstale : KeepsPool s (t.putLabel i { l with state := .stale, attempts := attempts }) := h.same
  unfold State.toWork
  split
  · exact h.same
  · dsimp only
    split
    · exact hstale.count _
    · exact hstale

theorem setLabelState (h : KeepsPool s t) (i : Nat) (st : LabelState) : KeepsPool s (t.setLabelState i st) := by
  unfold State.setLabelState
  split
  · exact h.same
  · exact h

theorem setLabelStates (h : KeepsPool s t) (is : List Nat) (st : LabelState) :
    KeepsPool s (is.foldl (fun t i => t.setLabelState i st) t) := h.foldl is (fun i _ _ hu => hu.setLabelState i st)

theorem refloor (h : KeepsPool s t) (i : Nat) : KeepsPool s (t.refloor i) := by
  unfold State.refloor
  split
  · exact h.same
  · exact h

theorem refloorFor (h : KeepsPool s t) (l : Label) : KeepsPool s (t.refloorFor l) := by
  unfold State.refloorFor
  split
  · exact h.refloor _
  · exact h

theorem noticeLabel (h : KeepsPool s t) (id : Nat) : KeepsPool s (t.noticeLabel id) := by
  unfold State.noticeLabel
  split
  · exact h
  · split
    · exact h.toWork _ _ _ _
    · split
      · exact h.toWork _ _ _ _
      · exact h
    all_goals exact h

theorem priceNotice (h : KeepsPool s t) (i : Nat) : KeepsPool s (t.priceNotice i) := by
  unfold State.priceNotice
  split
  · exact h.foldl _ (fun id _ _ hu => hu.noticeLabel id)
  · exact h

theorem leaveWork (h : KeepsPool s t) (i : Nat) (l : Label) : KeepsPool s (t.leaveWork i l) := by
  unfold State.leaveWork
  split
  · exact h.same
  · exact h.same
  all_goals exact h

theorem detach (h : KeepsPool s t) (i : Nat) (l : Label) (itemRemoved : Bool) : KeepsPool s (t.detach i l itemRemoved) := by
  have hout : KeepsPool s ((t.leaveWork i l).putLabel i { l with item := none, attempts := 0, state := .unassigned }) :=
    (h.leaveWork i l).same
  unfold State.detach
  dsimp only
  split
  · exact hout
  · split
    · exact hout
    · split
      · exact hout.same
      · exact refloor hout.same _

theorem detachRemoved (h : KeepsPool s t) (id : Nat) : KeepsPool s (t.detachRemoved id) := by
  unfold State.detachRemoved
  split
  · exact h.detach _ _ _
  · exact h

theorem removeItem (h : KeepsPool s t) (k : Nat) (it : Item) : KeepsPool s (t.removeItem k it) :=
  (h.foldl it.labels (fun id _ _ hu => hu.detachRemoved id)).same

theorem returnSent (h : KeepsPool s t) (l : LinkId) : KeepsPool s (t.returnSent l) := by
  have hlink := h.setLink l ((t.link l).yielded true)
  exact (hlink.setLabelStates _ _).foldl _
    (fun i _ _ hu => (hu.setLabelState i .stale).count _)

theorem moveLink (h : KeepsPool s t) (l : LinkId) (st : LinkState) : KeepsPool s (t.moveLink l st) := by
  unfold State.moveLink
  dsimp only
  split
  · exact returnSent h.same l
  · exact h.same

theorem checkFault (h : KeepsPool s t) (l : LinkId) : KeepsPool s (t.checkFault l) := by
  unfold State.checkFault
  split
  · exact (h.moveLink _ _).count _
  · exact h

theorem enterSilent (h : KeepsPool s t) (l : LinkId) : KeepsPool s (t.enterSilent l) :=
  ((h.moveLink l .silent).setLink l _).checkFault l

theorem checkError (h : KeepsPool s t) (l : LinkId) : KeepsPool s (t.checkError l) := (h.setLink l _).checkFault l

theorem bringUp (h : KeepsPool s t) (l : LinkId) : KeepsPool s (t.bringUp l) := by
  unfold State.bringUp
  split
  · exact h.enterSilent l
  · exact h

theorem bringUpIfPaced (h : KeepsPool s t) (l : LinkId) : KeepsPool s (t.bringUpIfPaced l) := by
  unfold State.bringUpIfPaced
  split
  · exact h.bringUp l
  · exact h

theorem goOff (h : KeepsPool s t) (l : LinkId) : KeepsPool s (t.goOff l) := by
  unfold State.goOff
  split
  · exact h
  · exact h.moveLink l _

theorem noContact (h : KeepsPool s t) (i : Nat) (l : Label) : KeepsPool s (t.noContact i l) := by
  have hunsent : KeepsPool s (t.unsend i l.link) := h.same
  unfold State.noContact
  dsimp only
  split
  · exact count hunsent.same _
  · exact hunsent.toWork _ _ _ _

theorem deadline (h : KeepsPool s t) (i : Nat) : KeepsPool s (t.deadline i) := by
  unfold State.deadline
  split
  · split
    · exact h.noContact _ _
    · exact h
  · exact h

theorem deadlines (h : KeepsPool s t) (is : List Nat) : KeepsPool s (is.foldl State.deadline t) :=
  h.foldl is (fun i _ _ hu => hu.deadline i)

theorem silence (h : KeepsPool s t) (l : LinkId) : KeepsPool s (t.silence l) := by
  unfold State.silence
  split
  · exact (h.enterSilent l).count _
  · exact h

theorem takeLabels (h : KeepsPool s t) (q : List Nat) (b : Nat) : KeepsPool s (takeLabels q b t).1 := by
  rw [takeLabels_eq]
  exact h.same

theorem labelUpdate (h : KeepsPool s t) (l : LinkId) : KeepsPool s (t.labelUpdate l) := by
  have htake := h.takeLabels (t.link l).queue t.settings.labels.slotBudget
  unfold State.labelUpdate
  generalize Machine.takeLabels (t.link l).queue t.settings.labels.slotBudget t = r at htake ⊢
  have hlink := htake.setLink l { r.1.link l with queue := r.2.2, sentOrder := (r.1.link l).sentOrder ++ r.2.1 }
  dsimp only
  split
  · exact hlink
  · split
    · exact hlink.send _ _ _ _ _
    · exact ((hlink.send _ _ _ _ _).setLabelStates _ _).setLink l _

theorem linkSuperframe (h : KeepsPool s t) (l : LinkId) : KeepsPool s (t.linkSuperframe l) := by
  have hbeacon := (h.silence l).send 0x20 (.b l) broadcast t.superframeTag (be 2 t.pacer.number ++ beMoment t.clock.now)
  unfold State.linkSuperframe
  split
  · exact h
  · dsimp only
    split <;> split
    · exact ((hbeacon.setLink l _).deadlines _).labelUpdate l
    · exact (hbeacon.setLink l _).deadlines _
    · exact (hbeacon.deadlines _).labelUpdate l
    · exact hbeacon.deadlines _

theorem superframeStart (h : KeepsPool s t) : KeepsPool s t.superframeStart := by
  have hnumbers : KeepsPool s ((t.setPacer { t.pacer with
      count := (t.pacer.count + 1) % 4294967296
      number := nextNumber t.settings.labels.max t.pacer.number
      window := ((t.pacer.count + 1) % 4294967296, nextNumber t.settings.labels.max t.pacer.number)
        :: t.pacer.window.take 3 }).setBeaconPulses (t.beaconPulses + 1)) := h.same
  exact (hnumbers.linkSuperframe _).linkSuperframe _

theorem pacerExpiry (h : KeepsPool s t) : KeepsPool s t.pacerExpiry := by
  unfold State.pacerExpiry
  split
  · exact superframeStart h.same
  · exact h

theorem shownEntry (h : KeepsPool s t) (i : Nat) (l : Label) (price : Nat) : KeepsPool s (t.shownEntry i l price) := by
  have hshown : KeepsPool s (((t.unsend i l.link).putLabel i
      { l with shown := some price, attempts := 0, state := .current }).refloorFor
        { l with shown := some price, attempts := 0, state := .current }) := refloorFor h.same _
  unfold State.shownEntry
  dsimp only
  split
  · exact hshown
  · exact hshown.toWork _ _ _ _

theorem rejectedEntry (h : KeepsPool s t) (i : Nat) (l : Label) : KeepsPool s (t.rejectedEntry i l) := count h.same _

theorem lateShown (h : KeepsPool s t) (i : Nat) (l : Label) (price : Nat) : KeepsPool s (t.lateShown i l price) := by
  have hshown : KeepsPool s ((t.putLabel i { l with shown := some price }).refloorFor { l with shown := some price }) :=
    refloorFor h.same _
  unfold State.lateShown
  dsimp only
  split
  · exact hshown.toWork _ _ _ _
  · exact hshown

theorem lateEntry (h : KeepsPool s t) (l : LinkId) (found : Option (Nat × Label)) (result price : Nat) :
    KeepsPool s (t.lateEntry l found result price) := by
  unfold State.lateEntry
  dsimp only
  split
  · split
    · exact (h.count _).lateShown _ _ _
    · exact h.count _
  · exact h.count _

theorem reportEntry (h : KeepsPool s t) (l : LinkId) (e : List Byte) : KeepsPool s (t.reportEntry l e) := by
  unfold State.reportEntry
  dsimp only
  split
  · split
    · split
      · exact h.shownEntry _ _ _
      · split
        · exact h.noContact _ _
        · exact h.rejectedEntry _ _
    · exact h.lateEntry _ _ _ _
  · exact h.lateEntry _ _ _ _

theorem takeLabelReport (h : KeepsPool s t) (l : LinkId) (f : List Byte) : KeepsPool s (State.takeLabelReport l f t) := by
  unfold State.takeLabelReport
  split
  · split
    · exact h.foldl _ (fun e _ _ hu => hu.reportEntry l e)
    · exact h.checkError l
  · exact h

theorem takeStationStatus (h : KeepsPool s t) (l : LinkId) (f : List Byte) : KeepsPool s (State.takeStationStatus l f t) := by
  unfold State.takeStationStatus
  split
  · split
    · exact h.same
    · exact h.checkError l
  · exact h

theorem staleScanStep (h : KeepsPool s t) (l : LinkId) : KeepsPool s (t.staleScanStep l) := by
  unfold State.staleScanStep
  split
  · dsimp only
    split
    · split
      · exact (h.toWork _ _ _ _).same
      · exact h.same
    · exact h.same
  · exact h

theorem rebuildQueue (h : KeepsPool s t) (l : LinkId) : KeepsPool s (t.rebuildQueue l) :=
  (h.setLink l _).foldl _ (fun i _ _ hu => (hu.setLabelState i _).count _)

theorem restartLink (h : KeepsPool s t) (l : LinkId) : KeepsPool s (t.restartLink l) := (h.setLink l _).bringUpIfPaced l

theorem restartLabels (h : KeepsPool s t) : KeepsPool s t.restartLabels := by
  have hlabels : KeepsPool s ((t.setLabels (t.labels.mapRecords restartLabel)).setPacer
      { t.pacer with remainder := 0, timeLeft := 1, oncePending := false, window := [] }) := h.same
  exact (((hlabels.rebuildQueue _).rebuildQueue _).restartLink _).restartLink _

/-! ### Control Requests (10.1 to 10.3) -/

theorem respond (h : KeepsPool s t) (src : Source) (f : List Byte) (op : Byte) (st : Status) (results : List Byte) :
    KeepsPool s (t.respond src f op st results).1 := h.send _ _ _ _ _

theorem noteController (h : KeepsPool s t) (src : Source) (f : List Byte) : KeepsPool s (t.noteController src f) := by
  cases src
  · exact h.same
  · exact h

theorem managementError (h : KeepsPool s t) : KeepsPool s t.managementError := h.same

theorem drawOperation (h : KeepsPool s t) (f : List Byte) : KeepsPool s (t.drawOperation f) := by
  unfold State.drawOperation
  split
  · exact h.same
  · exact h

theorem answerUnassigned (h : KeepsPool s t) (p : PortId) (f : List Byte) : KeepsPool s (t.answerUnassigned p f) := by
  unfold State.answerUnassigned
  split
  · split
    · exact (h.respond _ _ _ _ _).drawOperation f
    · exact h.managementError
  · exact h

theorem serveUnassignedFrom (h : KeepsPool s t) (n : Nat) (p : PortId) : KeepsPool s (State.serveUnassignedFrom n p t) := by
  induction n generalizing t with
  | zero => exact h
  | succ n ih =>
    unfold State.serveUnassignedFrom
    split
    · split
      · exact ih (answerUnassigned h.same p _)
      · exact h
    · exact h

theorem serveUnassigned (h : KeepsPool s t) (p : PortId) : KeepsPool s (t.serveUnassigned p) := h.serveUnassignedFrom _ p

/-- An operation's own rule that breaks nothing. -/
def Serves (serve : Source → List Byte → State → Reply) : Prop :=
  ∀ s t src params, KeepsPool s t → KeepsPool s (serve src params t).1

section Requests

variable {serve : Source → List Byte → State → Reply}

theorem judge (h : KeepsPool s t) (hs : Serves serve) (src : Source) (op : Nat) (f : List Byte) :
    KeepsPool s (t.judge src op serve f).1 := by
  unfold State.judge
  split
  · exact h
  · split
    · exact h
    · exact hs _ _ _ _ (h.noteController src f)

theorem runRequest (h : KeepsPool s t) (hs : Serves serve) (src : Source) (op : Nat) (f : List Byte) :
    KeepsPool s (t.runRequest src op serve f).1 := by
  unfold State.runRequest
  split
  · split
    · exact (h.judge hs src op f).respond _ _ _ _ _
    · exact h.managementError
  · exact h

theorem takeRequest (h : KeepsPool s t) (hs : Serves serve) (src : Source) (op : Nat) :
    KeepsPool s (takeRequest src op serve t) := by
  unfold Machine.takeRequest
  split
  · split
    · exact (runRequest h.same hs src op _).serveUnassigned _
    · exact h
  · exact h

end Requests

/-! ### Label operations (6.4) -/

theorem serves_labelAttach : Serves serveLabelAttach := by
  intro s t src params h
  unfold serveLabelAttach
  extract_lets id code found i s1
  clear_value found
  split
  · exact h
  · split
    · exact h
    · split
      · exact h
      · split
        · exact h
        · extract_lets old lab s2 s3 s4 s5
          have hfreed : KeepsPool s s1 := by
            unfold s1
            split
            · split
              · exact h.detach _ _ _
              · exact h
            · exact h
          have hlabel : KeepsPool s s2 := hfreed.setLabels _
          have hitem : KeepsPool s s3 := by
            unfold s3
            split
            · exact hlabel.same
            · exact hlabel
          have hfloor : KeepsPool s s4 := hitem.refloor _
          have hwork : KeepsPool s s5 := by
            unfold s5
            split
            · exact hfloor.toWork _ _ _ _
            · exact hfloor
          split
          · exact h
          · exact hwork

theorem serves_labelDetach : Serves serveLabelDetach := by
  intro s t src params h
  unfold serveLabelDetach
  dsimp only
  split
  · exact h
  · split
    · exact h
    · split
      · exact h
      · exact h.detach _ _ _

theorem serves_labelRemove : Serves serveLabelRemove := by
  intro s t src params h
  unfold serveLabelRemove
  dsimp only
  split
  · exact h
  · split
    · exact h
    · split
      · exact (h.detach _ _ _).setLabels _
      · exact h.setLabels _

theorem serves_labelResend : Serves serveLabelResend := by
  intro s t src params h
  unfold serveLabelResend
  dsimp only
  repeat' split
  all_goals first | exact h | exact h.toWork _ _ _ _

theorem serves_labelRead : Serves serveLabelRead := by
  intro s t src params h
  unfold serveLabelRead
  dsimp only
  repeat' split
  all_goals exact h

theorem serves_linkClear : Serves serveLinkClear := by
  intro s t src params h
  unfold serveLinkClear
  dsimp only
  repeat' split
  · exact h
  · exact h.setLink _ _
  · exact h.setLink _ _
  · exact h

theorem serves_beaconOnce : Serves serveBeaconOnce := by
  intro s t src params h
  unfold serveBeaconOnce
  split
  · exact h
  · split
    · exact h
    · exact ((h.setPacer _).bringUp _).bringUp _

/-! ### The Price Service (chapter 4) -/

theorem takePriceQuery (h : KeepsPool s t) (n : Fin 16) (f : List Byte) : KeepsPool s (State.takePriceQuery n f t) := by
  unfold State.takePriceQuery
  split
  · split
    · exact h.same
    · dsimp only
      split
      · exact (h.count _).send _ _ _ _ _
      · exact h.send _ _ _ _ _
  · exact h

theorem signOn (h : KeepsPool s t) (n : Fin 16) (number : Nat) : KeepsPool s (t.signOn n number).1 := by
  unfold State.signOn
  repeat' split
  all_goals exact h.same

theorem takeSignOn (h : KeepsPool s t) (n : Fin 16) (f : List Byte) : KeepsPool s (State.takeSignOn n f t) := by
  unfold State.takeSignOn
  split
  · split
    · exact h.same
    · rename_i number _
      have hs := h.signOn n number
      dsimp only
      split
      · exact (hs.count _).send _ _ _ _ _
      · exact hs.send _ _ _ _ _
  · exact h

theorem takeSignOff (h : KeepsPool s t) (n : Fin 16) (f : List Byte) : KeepsPool s (State.takeSignOff n f t) := by
  unfold State.takeSignOff
  repeat' split
  · exact h.same
  · exact h.same
  · exact h.count _
  · exact h.count _
  · exact h.same

theorem setActive (h : KeepsPool s t) (k : Nat) (it : Item) (price : Nat) (flags : ItemFlags) :
    KeepsPool s (t.setActive k it price flags) := by
  have hput : KeepsPool s (t.putItem k { it with active := some price, flags := flags }) := h.same
  unfold State.setActive
  dsimp only
  split
  · exact hput
  · exact hput.priceNotice k

theorem writeItem (h : KeepsPool s t) (code price : Nat) (flags : ItemFlags) : KeepsPool s (t.writeItem code price flags).1 := by
  unfold State.writeItem
  split
  · exact h.setActive _ _ _ _
  · split
    · dsimp only
      exact h.setActive _ _ _ _
    · exact h

theorem serves_itemWrite : Serves serveItemWrite := by
  intro s t src params h
  unfold serveItemWrite
  split
  · exact h
  · split
    · exact h
    · rename_i w _
      have hw := h.writeItem w.1 w.2.1 w.2.2
      split
      · exact h
      · split <;> rename_i heq <;> rw [heq] at hw <;> exact hw

theorem serves_priceChange : Serves servePriceChange := by
  intro s t src params h
  unfold servePriceChange
  dsimp only
  repeat' split
  · exact h
  · exact h
  · exact h
  · exact h
  · exact h.setActive _ _ _ _

theorem serves_itemRead : Serves serveItemRead := by
  intro s t src params h
  unfold serveItemRead
  repeat' split
  all_goals exact h

theorem serves_itemDelete : Serves serveItemDelete := by
  intro s t src params h
  unfold serveItemDelete
  repeat' split
  · exact h
  · exact h
  · exact h
  · exact h.removeItem _ _

theorem serves_loadBegin : Serves serveLoadBegin := by
  intro s t src params h
  unfold serveLoadBegin
  split
  · exact h
  · exact h.same

theorem loadWrite (h : KeepsPool s t) (e : List Byte) : KeepsPool s (t.loadWrite e).1 := by
  unfold State.loadWrite
  split
  · exact h
  · rename_i w _
    have hw := h.writeItem w.1 w.2.1 w.2.2
    split <;> rename_i heq <;> rw [heq] at hw <;> exact hw

theorem loadWrites (h : KeepsPool s t) (es : List (List Byte)) : KeepsPool s (loadWrites es t).1 := by
  induction es generalizing t with
  | nil => exact h
  | cons e es ih => exact ih (h.loadWrite e)

theorem serves_loadPart : Serves serveLoadPart := by
  intro s t src params h
  unfold serveLoadPart
  dsimp only
  split
  · exact h
  · split
    · exact h
    · split
      · exact h
      · split
        · exact h
        · exact (h.loadWrites _).setLoad _

theorem serves_loadEnd : Serves serveLoadEnd := by
  intro s t src params h
  unfold serveLoadEnd
  repeat' split
  all_goals exact h.same

theorem loadLapse (h : KeepsPool s t) : KeepsPool s t.loadLapse := by
  unfold State.loadLapse
  split
  · exact (h.setLoad _).count _
  · exact h

/-! ### The Guest Unit (chapter 9) -/

theorem guestSlot (h : KeepsPool s t) {u : State} {k : Nat} (hu : t.guestSlot = some (u, k)) : KeepsPool s u := by
  unfold State.guestSlot at hu
  split at hu
  · cases hu; exact h
  · split at hu
    · cases hu; exact h.same
    · cases hu

theorem guestArrival (h : KeepsPool s t) (a : Station) (port : Fin 4) : KeepsPool s (t.guestArrival a port).1 := by
  unfold State.guestArrival
  split
  · exact h.same
  · split
    · exact h.count _
    · split
      · rename_i hu; exact (h.guestSlot hu).putGuest _ _
      · exact h.count _

theorem police (h : KeepsPool s t) (k : Nat) (d : Direction) (n : Nat) : KeepsPool s (t.police k d n).1 := by
  rcases police_cases t k d n with ⟨-, e⟩ | ⟨g, v, -, e, -⟩ | e <;> rw [e] <;> exact h.same

theorem debit (h : KeepsPool s t) (a : Station) (d : Direction) (n : Nat) : KeepsPool s (t.debit a d n) := by
  unfold State.debit
  repeat' split
  · exact h
  · exact h
  · exact h.same
  · exact (h.putGuest _ _).count _
  · exact h
  · exact h
  · exact h
  · exact h

theorem returnTokens (h : KeepsPool s t) (a : Station) (d : Direction) (n : Nat) : KeepsPool s (t.returnTokens a d n) := by
  unfold State.returnTokens
  split
  · exact h
  · exact h.same

theorem guestExpiry (h : KeepsPool s t) (slot : Nat) : KeepsPool s (t.guestExpiry slot) := by
  unfold State.guestExpiry
  repeat' split
  all_goals exact h.same

theorem guestHold (h : KeepsPool s t) (slot : Nat) : KeepsPool s (t.guestHold slot) := by
  unfold State.guestHold
  repeat' split
  all_goals exact h.same

theorem guestTimeout (h : KeepsPool s t) (slot : Nat) : KeepsPool s (t.guestTimeout slot) := by
  unfold State.guestTimeout
  repeat' split
  all_goals exact h.same

theorem dropPending (h : KeepsPool s t) : KeepsPool s t.dropPending := h.same

theorem closingSweepStep (h : KeepsPool s t) : KeepsPool s t.closingSweepStep := by
  unfold State.closingSweepStep State.sweepSlot
  repeat' split
  all_goals exact h.same

theorem serves_guestAdmit : Serves serveGuestAdmit := by
  intro s t src params h
  unfold serveGuestAdmit
  dsimp only
  repeat' split
  · exact h
  · exact h
  · exact h
  · exact h
  · exact h
  · exact h.same
  · exact (h.guestSlot (by assumption)).putGuest _ _
  · exact h

theorem serves_guestEnd : Serves serveGuestEnd := by
  intro s t src params h
  unfold serveGuestEnd
  dsimp only
  repeat' split
  all_goals exact h.same

theorem serves_guestBar : Serves serveGuestBar := by
  intro s t src params h
  unfold serveGuestBar
  dsimp only
  repeat' split
  · exact h
  · exact h
  · exact h.same
  · exact (h.guestSlot (by assumption)).putGuest _ _
  · exact h

theorem serves_guestUnbar : Serves serveGuestUnbar := by
  intro s t src params h
  unfold serveGuestUnbar
  dsimp only
  repeat' split
  all_goals exact h.same

theorem serves_guestRead : Serves serveGuestRead := by
  intro s t src params h
  unfold serveGuestRead
  repeat' split
  all_goals exact h

/-! ### Time (chapter 1) -/

theorem askMode (h : KeepsPool s t) (m : StoreMode) : KeepsPool s (t.askMode m) := by
  unfold State.askMode
  split
  · exact h.same
  · exact h.same

theorem evaluateHours (h : KeepsPool s t) : KeepsPool s t.evaluateHours := by
  unfold State.evaluateHours
  split
  · exact h.askMode _
  · exact h.askMode _

theorem serves_setStoreMode : Serves serveSetStoreMode := by
  intro s t src params h
  unfold serveSetStoreMode
  repeat' split
  · exact h
  · exact h.askMode _
  · exact h.askMode _
  · exact h

theorem settle (h : KeepsPool s t) : KeepsPool s t.settle := by
  refine h.foldl _ (fun n _ u hu => ?_)
  unfold State.settleSlot
  repeat' split
  all_goals exact hu.same

theorem reachGuestTimes (h : KeepsPool s t) : KeepsPool s t.reachGuestTimes := h.same

theorem loadTime (h : KeepsPool s t) (m : Moment) : KeepsPool s (t.loadTime m) := by
  have hset := (h.setClock ⟨m, true⟩).count .timeSet
  unfold State.loadTime
  dsimp only
  split
  · exact hset.settle.evaluateHours.reachGuestTimes
  · exact hset.settle.reachGuestTimes
  all_goals exact hset.reachGuestTimes

/-! ### The journal and the batch (chapters 5 and 7) -/

theorem recoveryScanStep (h : KeepsPool s t) (damaged : Option Slot) : KeepsPool s (t.recoveryScanStep damaged) := by
  unfold State.recoveryScanStep
  split
  · exact h
  · split
    · exact h.same
    · dsimp only
      split
      · exact h.same
      · exact countBy (same h) _ _

theorem discardBatch (h : KeepsPool s t) : KeepsPool s t.discardBatch := by
  unfold State.discardBatch
  split
  · split
    · exact count h.same _
    · exact h
  · exact h

theorem cutoverRequest (h : KeepsPool s t) : KeepsPool s t.cutoverRequest := by
  unfold State.cutoverRequest
  repeat' split
  all_goals exact h.same

theorem applyStage (h : KeepsPool s t) (k : Nat) : KeepsPool s (t.applyStage k) := by
  unfold State.applyStage
  repeat' split
  · exact h.setActive _ _ _ _
  · exact h
  · exact h

theorem cutoverSweepStep (h : KeepsPool s t) : KeepsPool s t.cutoverSweepStep := by
  unfold State.cutoverSweepStep
  split
  · split
    · dsimp only
      split
      · exact (h.applyStage _).setBatch _
      · exact ((h.applyStage _).setBatch _).count _
    · exact h
  · exact h

theorem withdrawStage (h : KeepsPool s t) (k : Nat) : KeepsPool s (t.withdrawStage k) := by
  unfold State.withdrawStage
  repeat' split
  · exact h.same
  · exact h.removeItem _ _
  · exact h.same
  · exact h.same

theorem withdrawSweepStep (h : KeepsPool s t) : KeepsPool s t.withdrawSweepStep := by
  unfold State.withdrawSweepStep
  split
  · split
    · dsimp only
      split
      · exact (h.withdrawStage _).setBatch _
      · exact (h.withdrawStage _).setBatch _
    · exact h
  · exact h

theorem openBatch (h : KeepsPool s t) (number declared : Nat) (time : Option Moment) :
    KeepsPool s (t.openBatch number declared time).1 := by
  unfold State.openBatch
  repeat' split
  all_goals exact h.same

theorem applyChanges (h : KeepsPool s t) (es : List (List Byte)) : KeepsPool s (applyChanges es t).1 := by
  rw [applyChanges_eq]
  exact h.same

theorem batchPart (h : KeepsPool s t) (number part n : Nat) (changes : List (List Byte)) :
    KeepsPool s (t.batchPart number part n changes).1 := by
  unfold State.batchPart
  dsimp only
  repeat' split
  · exact h
  · exact h
  · exact h
  · exact h
  · exact h
  · exact h
  · exact h
  · exact (h.applyChanges _).setBatch _

theorem arm (h : KeepsPool s t) (b : Batch) : KeepsPool s (t.arm b) := by
  unfold State.arm State.cutoverLoad
  dsimp only
  repeat' split
  · exact h.same
  · exact count h.same _
  · exact h.same
  · exact count h.same _
  · exact h.same

theorem closeBatch (h : KeepsPool s t) (number n check : Nat) : KeepsPool s (t.closeBatch number n check).1 := by
  unfold State.closeBatch
  dsimp only
  repeat' split
  · exact h
  · exact ((h.count _).setLastVerdict _).arm _
  · exact ((h.count _).setLastVerdict _).startWithdraw _
  · exact h

theorem serves_cutoverNow : Serves serveCutoverNow := by
  intro s t src params h
  unfold serveCutoverNow
  repeat' split
  all_goals exact h.same

theorem serves_batchWithdraw : Serves serveBatchWithdraw := by
  intro s t src params h
  unfold serveBatchWithdraw
  repeat' split
  all_goals exact h.same

/-! ### The Night Link Engine (chapter 8) -/

theorem startSession (h : KeepsPool s t) (k : SessionType) : KeepsPool s (t.startSession k) := h.same

theorem startNight (h : KeepsPool s t) : KeepsPool s t.startNight := by
  unfold State.startNight
  split
  · exact h
  · exact h.startSession _

theorem trickleRequest (h : KeepsPool s t) : KeepsPool s t.trickleRequest := by
  unfold State.trickleRequest
  split
  · exact h.startSession _
  · exact h

theorem serves_nightLinkStart : Serves serveNightLinkStart := by
  intro s t src params h
  unfold serveNightLinkStart
  split
  · exact h
  · exact h.startSession _

theorem endSession (h : KeepsPool s t) (st : SessionState) (why : LastOutcome) (counted : EventKind) :
    KeepsPool s (t.endSession st why counted) := ((h.onSession _).count counted).discardBatch

theorem cutSession (h : KeepsPool s t) (why : LastOutcome) : KeepsPool s (t.cutSession why) := h.endSession _ _ _

theorem failSession (h : KeepsPool s t) (why : LastOutcome) : KeepsPool s (t.failSession why) := h.endSession _ _ _

theorem endNight (h : KeepsPool s t) : KeepsPool s t.endNight := by
  unfold State.endNight
  split
  · exact h.cutSession _
  · exact h

theorem serves_nightLinkStop : Serves serveNightLinkStop := by
  intro s t src params h
  unfold serveNightLinkStop
  split
  · exact h.cutSession _
  · exact h.cutSession _
  · exact h.cutSession _
  · split
    · exact h.cutSession _
    · exact h.same
  all_goals exact h

theorem offerTransferOpen (h : KeepsPool s t) : KeepsPool s t.offerTransferOpen :=
  ((h.sendHeadOffice _ _ _).onSession _).startTimer

theorem transferOpen (h : KeepsPool s t) : KeepsPool s t.transferOpen := by
  unfold State.transferOpen
  split
  · exact (h.onSession _).offerTransferOpen
  · exact h

theorem scanStep (h : KeepsPool s t) (damaged : Option Slot) : KeepsPool s (t.scanStep damaged) := by
  unfold State.scanStep
  dsimp only
  split
  · exact (h.recoveryScanStep damaged).transferOpen
  · exact h.recoveryScanStep damaged

theorem offerSegment (h : KeepsPool s t) (b : OutBlock) (body : List Byte) : KeepsPool s (t.offerSegment b body).1 :=
  (h.admitFrame _ _ _ _).drawStation

theorem offerSegments (h : KeepsPool s t) (b : OutBlock) (segs : List (List Byte)) (k : Nat) :
    KeepsPool s (offerSegments b segs k t).1 := by
  induction segs generalizing k t with
  | nil => exact h
  | cons body rest ih =>
    have hseg := h.offerSegment b body
    unfold Machine.offerSegments
    dsimp only
    split
    · exact ih hseg (k + 1)
    · dsimp only
      split
      · exact hseg
      · exact hseg.countAll _

theorem offerBlock (h : KeepsPool s t) (b : OutBlock) (k : Nat) : KeepsPool s (t.offerBlock b k).1 := h.offerSegments b _ k

theorem sendBlock (h : KeepsPool s t) (b : OutBlock) : KeepsPool s (t.sendBlock b) := by
  unfold State.sendBlock
  exact ((h.onSession _).offerBlock b 0).onSession _

theorem sendBlocksFrom (h : KeepsPool s t) (n : Nat) : KeepsPool s (State.sendBlocksFrom n t) := by
  induction n generalizing t with
  | zero => exact h
  | succ n ih =>
    unfold State.sendBlocksFrom
    split
    · exact ih (h.sendBlock _)
    · exact h

theorem sendBlocks (h : KeepsPool s t) : KeepsPool s t.sendBlocks := h.sendBlocksFrom 4

theorem reofferBlocks (h : KeepsPool s t) (bs : List OutBlock) : KeepsPool s (reofferBlocks bs t).1 := by
  induction bs generalizing t with
  | nil => exact h
  | cons b bs ih =>
    unfold Machine.reofferBlocks
    split
    · exact ih h
    · dsimp only
      split
      · exact ih (h.offerBlock _ _)
      · exact h.offerBlock _ _

theorem reoffer (h : KeepsPool s t) : KeepsPool s t.reoffer := by
  unfold State.reoffer
  split
  · exact ((h.reofferBlocks _).onSession _).sendBlocks
  · exact h

theorem resendBlocks (h : KeepsPool s t) (bs : List OutBlock) : KeepsPool s (resendBlocks bs t).1 := by
  induction bs generalizing t with
  | nil => exact h
  | cons b bs ih =>
    unfold Machine.resendBlocks
    dsimp only
    split
    · exact ih (h.offerBlock _ _)
    · exact h.offerBlock _ _

theorem resend (h : KeepsPool s t) : KeepsPool s t.resend := by
  unfold State.resend
  exact (h.resendBlocks _).onSession _

theorem enterReceiving (h : KeepsPool s t) : KeepsPool s t.enterReceiving := (h.onSession _).startTimer

theorem offerTransferEnd (h : KeepsPool s t) : KeepsPool s t.offerTransferEnd := (h.sendHeadOffice _ _ _).startTimer

theorem enterClosing (h : KeepsPool s t) : KeepsPool s t.enterClosing := (h.onSession _).offerTransferEnd

theorem checkDrained (h : KeepsPool s t) : KeepsPool s t.checkDrained := by
  unfold State.checkDrained
  split
  · split
    · exact h.enterReceiving
    · exact h.enterClosing
  · exact h

theorem drainOn (h : KeepsPool s t) : KeepsPool s t.drainOn := h.sendBlocks.checkDrained

theorem retryOr {again : State → State} (h : KeepsPool s t) (why : LastOutcome)
    (hagain : ∀ u, KeepsPool s u → KeepsPool s (again u)) : KeepsPool s (t.retryOr why again) := by
  unfold State.retryOr
  dsimp only
  split
  · exact (h.onSession _).failSession why
  · exact hagain _ (h.onSession _)

theorem blockTimerExpiry (h : KeepsPool s t) : KeepsPool s t.blockTimerExpiry := by
  unfold State.blockTimerExpiry
  split
  · split
    · exact h.retryOr _ (fun _ hu => hu.offerTransferOpen)
    · exact h.retryOr _ (fun _ hu => hu.resend.startTimer.sendBlocks)
    · exact h.cutSession _
    · exact h.retryOr _ (fun _ hu => hu.startTimer)
    · exact h.retryOr _ (fun _ hu => hu.offerTransferEnd)
    all_goals exact h
  · exact h

/-- A message of head office whose own rule breaks nothing. -/
theorem takeFromOffice {serve : List Byte → State → State} (h : KeepsPool s t) (kind : Nat) (bodyOk : List Byte → Bool)
    (hserve : ∀ f u, KeepsPool s u → KeepsPool s (serve f u)) : KeepsPool s (takeFromOffice kind bodyOk serve t) := by
  refine h.takeMessage .up kind (fun f u hu => serveUnassigned ?_ .up)
  unfold takeOffice
  split
  · split
    · exact hserve f u hu
    · exact hu.onSession _
  · exact hu

theorem acknowledge (h : KeepsPool s t) (n : Nat) : KeepsPool s (t.acknowledge n) := by
  unfold State.acknowledge
  dsimp only
  split
  · split
    · split
      · exact ((h.onJournal _).onSession _).cutSession _
      · exact (h.onJournal _).onSession _
    all_goals exact ((h.onJournal _).onSession _).drainOn
  · exact h

theorem blockAck (h : KeepsPool s t) (f : List Byte) : KeepsPool s (State.blockAck f t) := by
  unfold State.blockAck
  dsimp only
  repeat' split
  all_goals first | exact h | exact h.onSession _ | exact h.failSession _ | exact h.acknowledge _

theorem endAck (h : KeepsPool s t) (f : List Byte) : KeepsPool s (State.endAck f t) := by
  unfold State.endAck
  split
  · split
    · exact (h.onSession _).count _
    · exact h
    all_goals exact h.onSession _
  · exact h.onSession _

theorem offerPartAck (h : KeepsPool s t) (f : List Byte) (st : PartStatus) (results : List ChangeResult) :
    KeepsPool s (t.offerPartAck f st results) := by
  have hsend := h.sendHeadOffice 0x46 (frameTag f) (t.partAckBody (fieldAt (frameBody f) 0 4) st results)
  unfold State.offerPartAck State.drawCounts
  split
  · exact hsend.setFreeUsed _
  · exact hsend

theorem batchHeard (h : KeepsPool s t) : KeepsPool s t.batchHeard := (h.onSession _).startTimer

theorem takeBatchOpen (h : KeepsPool s t) (f : List Byte) : KeepsPool s (State.takeBatchOpen f t) := by
  unfold State.takeBatchOpen
  split
  · exact (h.batchHeard.openBatch _ _ _).offerPartAck _ _ _
  · exact h.onSession _

theorem takeBatchPart (h : KeepsPool s t) (f : List Byte) : KeepsPool s (State.takeBatchPart f t) := by
  unfold State.takeBatchPart
  split
  · exact (h.batchHeard.batchPart _ _ _ _).offerPartAck _ _ _
  · exact h.onSession _

theorem answerClose (h : KeepsPool s t) (f : List Byte) : KeepsPool s (State.answerClose f t).1 :=
  (h.closeBatch _ _ _).sendHeadOffice _ _ _

theorem takeBatchClose (h : KeepsPool s t) (f : List Byte) : KeepsPool s (State.takeBatchClose f t) := by
  unfold State.takeBatchClose
  split
  · exact ((h.batchHeard.answerClose f).onSession _).discardBatch.enterClosing
  · exact h.answerClose f
  all_goals exact h.onSession _

theorem accept (h : KeepsPool s t) (sessionId : Nat) (declined : Bool) (o : Nat) (batch : Bool) :
    KeepsPool s (t.accept sessionId declined o batch) := by
  unfold State.accept
  split
  · exact h.onSession _
  · exact (h.onSession _).drainOn

/-! ### The schedule (chapter 1) -/

theorem slotAction (h : KeepsPool s t) (n : DailyName) : KeepsPool s (t.slotAction n) := by
  cases n
  case storeOpen => exact h.askMode _
  case storeClose => exact h.askMode _
  case nightStart => exact h.startNight
  case nightEnd => exact h.endNight

theorem fireDaily (h : KeepsPool s t) (n : DailyName) : KeepsPool s (t.fireDaily n) := by
  unfold State.fireDaily
  split
  · exact (h.setSchedule _).slotAction n
  · exact h

theorem fireCutover (h : KeepsPool s t) : KeepsPool s t.fireCutover := by
  unfold State.fireCutover
  split
  · exact (h.setSchedule _).cutoverRequest
  · exact h

theorem fireDue (h : KeepsPool s t) : KeepsPool s t.fireDue := by
  have hbefore := h.foldl (t.schedule.dailyOrder.filter t.beforeCutover) (fun n _ _ hu => hu.fireDaily n)
  exact hbefore.fireCutover.foldl _ (fun n _ _ hu => hu.fireDaily n)

theorem fireAfter (h : KeepsPool s t) (k : SetKind) : KeepsPool s (t.fireAfter k) := by
  cases k
  case forward => exact h.fireDue
  case first => exact h.fireCutover
  case backward => exact h.fireCutover
  case equal => exact h

theorem serves_setTime : Serves serveSetTime := by
  intro s t src params h
  unfold serveSetTime
  dsimp only
  split
  · exact h
  · exact (h.loadTime _).fireAfter _

theorem transferAccept (h : KeepsPool s t) (f : List Byte) : KeepsPool s (State.transferAccept f t) := by
  unfold State.transferAccept
  dsimp only
  split
  · split
    · split
      · exact KeepsPool.fireAfter ((h.loadTime _).accept _ _ _ _) _
      · exact h.accept _ _ _ _
    · exact h.accept _ _ _ _
  · exact h.onSession _

theorem setDailySlot (h : KeepsPool s t) (n : DailyName) (x : Option Nat) : KeepsPool s (t.setDailySlot n x) := by
  unfold State.setDailySlot
  dsimp only
  repeat' split
  all_goals exact h.same

theorem serveDaily (h : KeepsPool s t) (n : DailyName) (params : List Byte) : KeepsPool s (t.serveDaily n params).1 := by
  unfold State.serveDaily
  split
  · exact h
  · split
    · exact h
    · exact h.setDailySlot n none
    · rename_i x _
      split
      · exact h
      · exact h.setDailySlot n (some x)

theorem serveCutoverSlot (h : KeepsPool s t) (params : List Byte) : KeepsPool s (t.serveCutoverSlot params).1 := by
  unfold State.serveCutoverSlot
  repeat' split
  · exact h
  · exact h
  · exact h
  · exact ((h.setSchedule _).setBatch _).fireCutover
  · exact h
  · exact h

theorem serves_setScheduleSlot : Serves serveSetScheduleSlot := by
  intro s t src params h
  unfold serveSetScheduleSlot
  repeat' split
  · exact h
  · exact h.serveDaily _ _
  · exact h.serveCutoverSlot _
  · exact h

/-! ### Sales (chapter 5) -/

theorem applyHighMark (h : KeepsPool s t) (before : Nat) : KeepsPool s (t.applyHighMark before) := by
  unfold State.applyHighMark
  dsimp only
  repeat' split
  · exact (h.count _).trickleRequest
  · exact h.trickleRequest
  · exact h.count _
  · exact h

theorem storeSale (h : KeepsPool s t) (o : SaleOffer) (x : Till) (tender : Tender) (q : Nat) :
    KeepsPool s (t.storeSale o x tender q).1 := (((h.countAll _).onJournal _).setTills _).applyHighMark _

theorem holdOrStore (h : KeepsPool s t) (o : SaleOffer) (x : Till) : KeepsPool s (t.holdOrStore o x).1 := by
  unfold State.holdOrStore
  repeat' split
  · exact h
  · exact h
  · exact h
  · exact h
  · exact h.storeSale _ _ _ _

theorem orderSale (h : KeepsPool s t) (o : SaleOffer) (x : Till) : KeepsPool s (t.orderSale o x).1 := by
  unfold State.orderSale
  repeat' split
  · exact h.holdOrStore _ _
  · exact h
  · exact h
  · exact h.holdOrStore _ _

theorem judgeSale (h : KeepsPool s t) (n : Fin 16) (o : SaleOffer) : KeepsPool s (t.judgeSale n o).1 := by
  unfold State.judgeSale
  repeat' split
  · exact h
  · exact h
  · exact h.orderSale _ _
  · exact h

theorem takeSaleRecord (h : KeepsPool s t) (n : Fin 16) (f : List Byte) : KeepsPool s (State.takeSaleRecord n f t) := by
  unfold State.takeSaleRecord
  split
  · split
    · exact ((h.judgeSale n _).countAll _).send _ _ _ _ _
    · exact h.onJournal _
  · exact h

/-! ### The Classifier (chapter 2) -/

theorem learn (h : KeepsPool s t) (p : PortId) (a : Station) : KeepsPool s (t.learn p a) := by
  unfold State.learn
  split
  · exact h.setAddresses _
  · split
    · exact h
    · split
      · exact h.setAddresses _
      · exact h.count _

theorem zoneMoveCheck (h : KeepsPool s t) (a : Station) : KeepsPool s (t.zoneMoveCheck a) := by
  unfold State.zoneMoveCheck
  split
  · exact (h.setAddresses _).count _
  · exact h

theorem handleSource (h : KeepsPool s t) (p : PortId) (a : Station) : KeepsPool s (t.handleSource p a) := by
  unfold State.handleSource
  split
  · exact h
  · split
    · exact h
    · exact h.zoneMoveCheck a
    all_goals exact h.learn _ a

theorem branchMessage (h : KeepsPool s t) (p : PortId) (f : List Byte) : KeepsPool s (t.branchMessage p f) := by
  unfold State.branchMessage
  dsimp only
  repeat' split
  · exact (h.setHanded _).serveUnassigned _
  · exact (h.setHanded _).serveUnassigned _
  · exact h.setHanded _
  · exact h.setHanded _
  · exact h.setHanded _
  · exact h.count _

theorem forward (h : KeepsPool s t) (p : PortId) (f : List Byte) (targets : List PortId) :
    KeepsPool s (t.forward p f targets).1 := h.offer _ _ _ _

theorem forwardPoliced (h : KeepsPool s t) (p : PortId) (f : List Byte) (target : PortId) (a : Station) (d : Direction) :
    KeepsPool s (t.forwardPoliced p f target a d) := by
  unfold State.forwardPoliced
  split
  · exact h.forward _ _ _
  · rename_i k g _
    have hpolice := h.police k d f.length
    dsimp only
    split
    · split
      · exact (hpolice.forward _ _ _).debit _ _ _
      · exact (hpolice.forward _ _ _).returnTokens _ _ _
    · exact hpolice

theorem targetDrop (h : KeepsPool s t) {p target : PortId} {u : State} (hu : t.targetDrop p target = some u) :
    KeepsPool s u := by
  unfold State.targetDrop at hu
  repeat' split at hu
  all_goals cases hu
  · exact h.setPort _ _
  · exact h.count _
  · exact h.count _

theorem unicast (h : KeepsPool s t) (p : PortId) (f : List Byte) (limited : Bool) : KeepsPool s (t.unicast p f limited) := by
  unfold State.unicast
  split
  · exact h.count _
  · split
    · exact h.count _
    · split
      · rename_i hu; exact h.targetDrop hu
      · split
        · exact h.forwardPoliced _ _ _ _ _
        · exact h.forward _ _ _
  · split
    · exact h.count _
    · split
      · rename_i hu; exact h.targetDrop hu
      · exact h.forwardPoliced _ _ _ _ _

theorem multicast (h : KeepsPool s t) (p : PortId) (f : List Byte) : KeepsPool s (t.multicast p f) := by
  unfold State.multicast
  split
  · split
    · exact h.count _
    · exact h
  · exact h.forward _ _ _

theorem guestMulticast (h : KeepsPool s t) (p : PortId) (f : List Byte) (limited : Bool) :
    KeepsPool s (t.guestMulticast p f limited) := by
  unfold State.guestMulticast
  split
  · exact h.count _
  · split
    · exact h.count _
    · exact h.forwardPoliced _ _ _ _ _

theorem guestFrame (h : KeepsPool s t) (n : Fin 4) (f : List Byte) : KeepsPool s (t.guestFrame n f) := by
  have harrival := h.guestArrival (frameSource f) n
  unfold State.guestFrame
  split
  · exact h.count _
  · dsimp only
    split
    · split
      · exact harrival
      · split
        · exact harrival.count _
        · split
          · exact harrival.guestMulticast _ _ _
          · exact harrival.unicast _ _ _
    · exact harrival

theorem ordinaryFrame (h : KeepsPool s t) (p : PortId) (f : List Byte) : KeepsPool s (t.ordinaryFrame p f) := by
  unfold State.ordinaryFrame
  split
  · exact h.guestFrame _ _
  all_goals
    split
    · exact h.multicast _ _
    · exact h.unicast _ _ _

theorem classify (h : KeepsPool s t) (p : PortId) (f : List Byte) : KeepsPool s (t.classify p f) := by
  unfold State.classify
  split
  · exact h.count _
  · dsimp only
    split
    · exact (h.handleSource _ _).branchMessage _ _
    · exact (h.handleSource _ _).ordinaryFrame _ _

theorem frameReceived (h : KeepsPool s t) (p : PortId) (f : List Byte) : KeepsPool s (t.frameReceived p f) := by
  unfold State.frameReceived
  dsimp only
  repeat' split
  · exact h
  · exact h.setPort _ _
  · exact h.setPort _ _
  · exact h.setPort _ _
  · exact h.classify _ _

theorem ageOut (h : KeepsPool s t) (a : Station) : KeepsPool s (t.ageOut a) := by
  unfold State.ageOut
  repeat' split
  all_goals exact h.same

/-- The matrix is not of the pool's settings. -/
theorem serves_zoneMatrixWrite : Serves serveZoneMatrixWrite := by
  intro s t src params h
  unfold serveZoneMatrixWrite
  repeat' split
  · exact h
  · exact h
  · exact h.trans ⟨id, id⟩
  · exact h

theorem serves_addressFlush : Serves serveAddressFlush := by
  intro s t src params h
  unfold serveAddressFlush
  repeat' split
  all_goals exact h.same

/-! ### The Output Scheduler (3.6, 3.7) -/

theorem spendBucket (h : KeepsPool s t) (p : PortId) (n : Nat) : KeepsPool s (t.spendBucket p n) := by
  unfold State.spendBucket
  split
  · exact h.setBucket _
  · exact h

theorem beginFrame (h : KeepsPool s t) (p : PortId) (c : OutClass) (ref : Nat) : KeepsPool s (t.beginFrame p c ref) := by
  unfold State.beginFrame
  dsimp only
  split
  · exact ((h.setPort _ _).spendBucket _ _).noticeRelease
  · exact (h.setPort _ _).spendBucket _ _

theorem transmitStart (h : KeepsPool s t) (p : PortId) : KeepsPool s (t.transmitStart p) := by
  unfold State.transmitStart
  split
  · dsimp only
    split
    · exact h.setPort _ _
    · split
      · exact h.setPort _ _
      · split
        · exact (h.setPort _ _).beginFrame _ _ _
        · exact h.setPort _ _
  · exact h

theorem transmitComplete (h : KeepsPool s t) (p : PortId) : KeepsPool s (t.transmitComplete p) := by
  unfold State.transmitComplete
  split
  · exact (h.setPort _ _).endCopy _
  · exact h

/-! ### Queue Settings Write (R34, R35) -/

/-- The settings of a write that passes R35's checks put in force. -/
theorem setSettings_of_judged (h : KeepsPool s t) {es : List Entry} {x : Settings} (hx : t.judgeSettings es = .ok x) :
    KeepsPool s (t.setSettings x) := by
  obtain ⟨hes, hguest, hshort⟩ := judgeSettings_ok hx
  refine h.trans ⟨?_, fun hr => reservesOk_applyEntries hr hes⟩
  rintro ⟨htotal, -, -, hheld, hwf, hrefs, hload⟩
  exact ⟨htotal, hguest, hshort, hheld, hwf, hrefs, hload⟩

theorem lowerAges (h : KeepsPool s t) : KeepsPool s t.lowerAges := h.setAddresses _

theorem fillUnshaped (h : KeepsPool s t) : KeepsPool s t.fillUnshaped := by
  unfold State.fillUnshaped
  split
  · exact h.setBucket _
  · exact h

theorem settlePacer (h : KeepsPool s t) (ran changed : Bool) : KeepsPool s (t.settlePacer ran changed) := by
  unfold State.settlePacer
  extract_lets pacer1 s1 pacer2 s2
  have honce : KeepsPool s s1 := by
    unfold s1
    split
    · exact h.setPacer _
    · exact h
  have htime : KeepsPool s s2 := by
    unfold s2
    split
    · exact honce.setPacer _
    · exact honce
  split
  · exact (htime.bringUp _).bringUp _
  · exact (htime.goOff _).goOff _

theorem clearDisabled (h : KeepsPool s t) (es : List Entry) : KeepsPool s (t.clearDisabled es) := by
  refine h.foldl _ (fun k _ u hu => ?_)
  unfold State.clearIfDisabled
  split
  · exact hu
  · exact hu.same

theorem settleHeartbeat (h : KeepsPool s t) : KeepsPool s t.settleHeartbeat := by
  unfold State.settleHeartbeat
  dsimp only
  split
  · exact h.same
  · exact h.same

theorem takeSettings (h : KeepsPool s t) {es : List Entry} {x : Settings} (hx : t.judgeSettings es = .ok x) :
    KeepsPool s (t.takeSettings es x) := by
  unfold State.takeSettings
  extract_lets s1 changed s2 s3 s4 s5
  have hforce : KeepsPool s s1 := (h.setSettings_of_judged hx).lowerAges.fillUnshaped
  have hpacer : KeepsPool s s2 := by
    unfold s2
    split
    · exact hforce.settlePacer _ _
    · exact hforce
  have hfault : KeepsPool s s3 := by
    unfold s3
    split
    · exact (hpacer.checkFault _).checkFault _
    · exact hpacer
  have hmarks : KeepsPool s s4 := hfault.clearDisabled es
  have htimer : KeepsPool s s5 := by
    unfold s5
    split
    · exact hmarks.settleHeartbeat
    · exact hmarks
  exact htimer.offerOwedIfOpened _

theorem serves_queueSettingsWrite : Serves serveQueueSettingsWrite := by
  intro s t src params h
  unfold serveQueueSettingsWrite
  dsimp only
  split
  · exact h
  · split
    · rename_i hx; exact h.takeSettings hx
    · exact h

/-! ### The Management Unit (chapter 10) -/

theorem readArea (h : KeepsPool s t) (area : State → Nat → Option (List Byte)) (params : List Byte) :
    KeepsPool s (readArea area params t).1 := by
  unfold Machine.readArea
  repeat' split
  all_goals exact h

theorem serves_readStatus : Serves serveReadStatus := fun _ _ _ _ h => h.readArea _ _

theorem serves_readCounters : Serves serveReadCounters := fun _ _ _ _ h => h.readArea _ _

theorem serves_clearEvents : Serves serveClearEvents := by
  intro s t src params h
  unfold serveClearEvents State.lowerCounter
  dsimp only
  repeat' split
  all_goals exact h.same

theorem serves_clearResetCauses : Serves serveClearResetCauses := fun _ _ _ _ h => h.same

theorem serves_heartbeat : Serves serveHeartbeat := by
  intro s t src params h
  have hpresent : KeepsPool s t.heartbeat := h.same
  exact hpresent.offerOwedIfOpened _

theorem supervisionExpiry (h : KeepsPool s t) : KeepsPool s t.supervisionExpiry := by
  unfold State.supervisionExpiry
  split
  · exact count h.same _
  · exact h

/-- A save leaves the image in a state other than Loading. -/
theorem serves_saveConfiguration : Serves serveSaveConfiguration := by
  intro s t src params h
  have hsave : KeepsPool s t.startSave := h.of_loading rfl rfl (fun x => by cases x)
  unfold serveSaveConfiguration
  split
  · exact hsave
  · exact hsave
  · exact h
  · exact h

theorem saveEnd (h : KeepsPool s t) (written : Bool) : KeepsPool s (t.saveEnd written) := by
  unfold State.saveEnd
  split
  · split
    · exact h.of_loading rfl rfl (fun x => by cases x)
    · have hbad : KeepsPool s (t.onManagement (fun m => { m with image := .bad, saving := none })) :=
        h.of_loading rfl rfl (fun x => by cases x)
      exact hbad.count _
  · exact h

theorem serves_restart : Serves serveRestart := by
  intro s t src params h
  unfold serveRestart
  repeat' split
  all_goals exact h.same

theorem takeRestart (h : KeepsPool s t) (src : Source) : KeepsPool s (State.takeRestart src t) := by
  unfold State.takeRestart
  split
  · split
    · refine serveUnassigned ?_ _
      have hrun := runRequest (t := t.takeHanded (sourcePort src)) h.same serves_restart src 114
      unfold State.awaitResponse
      split
      · exact same (hrun _)
      · exact hrun _
    · exact h
  · exact h

/-! ### Resets (R196) -/

/-- A state whose pool is empty and whose settings are the built-in defaults. -/
theorem of_reset {u : State} (hp : u.pool = resetPool) (hs : u.settings = defaultSettings) : KeepsPool s u := by
  refine ⟨fun _ => poolLegal_of_empty ?_ ?_ ?_, fun _ => ?_⟩
  · rw [hp]; rfl
  · rw [hp]; rfl
  · rw [hs]; decide
  · show ReservesOk u.settings
    rw [hs]; exact reservesOk_default

theorem powerOn (s : State) (straps : BitVec 4) : KeepsPool s (s.powerOn straps) := of_reset rfl rfl

theorem resetBlocks (s : State) (causes : ResetCauses) (straps : BitVec 4) (j : Journal) :
    KeepsPool s (s.resetBlocks causes straps j) := of_reset rfl rfl

theorem resetAssert (s : State) (torn : Option Slot) : KeepsPool s (s.resetAssert torn) := by
  unfold State.resetAssert
  repeat' split
  · exact refl s
  · exact of_reset rfl rfl
  · exact (refl s).same

theorem pinReset (s : State) (straps : BitVec 4) : KeepsPool s (s.pinReset straps) := by
  unfold State.pinReset
  split
  · exact of_reset rfl rfl
  · exact (refl s).same

/-- A Soft Restart empties the pool and keeps the settings, whose reserves fit in it. -/
theorem softBlocks (s : State) (torn : Option Slot) : KeepsPool s (s.softBlocks torn) := by
  refine ⟨fun h => poolLegal_of_empty rfl rfl ?_, id⟩
  obtain ⟨htotal, -, hshort, -⟩ := h
  exact reserves_le_of_covered htotal hshort

theorem softRestart (s : State) (torn : Option Slot) : KeepsPool s (s.softRestart torn) :=
  (softBlocks s torn).discardBatch.restartLabels.offerOwedIfOpened _

/-! ### The end of a load (R197) -/

/-- The image's settings taken while nothing is stored. -/
theorem takeImage {good : Bool} (hload : s.loading = true) (hgood : good = true → s.imageHolds = true) :
    KeepsPool s (s.takeImage good) := by
  have hok : ReservesOk (s.takeImage good).settings := by
    cases good
    case false => exact reservesOk_default
    case true =>
      have hholds := hgood rfl
      simp only [State.imageHolds, Bool.and_eq_true] at hholds
      obtain ⟨⟨⟨-, hrange⟩, -⟩, -⟩ := hholds
      exact reservesOk_of_inRange hrange
  refine ⟨fun h => ?_, fun _ => hok⟩
  have hframes : s.pool.frames = [] := by
    obtain ⟨-, -, -, -, -, -, hempty⟩ := h
    exact hempty hload
  have hunused := inUse_of_empty h hframes
  obtain ⟨htill, hcontrol, -⟩ := hok
  exact poolLegal_of_empty hframes hunused (by omega)

theorem settleIfValid (h : KeepsPool s t) : KeepsPool s t.settleIfValid := by
  unfold State.settleIfValid
  split
  · exact h.settle
  · exact h

theorem startPacer (h : KeepsPool s t) : KeepsPool s t.startPacer := by
  unfold State.startPacer
  split
  · exact h.setPacer _
  · exact h

theorem startSupervision (h : KeepsPool s t) : KeepsPool s t.startSupervision := h.same

theorem endLoad {good : Bool} (hload : s.loading = true) (hgood : good = true → s.imageHolds = true) :
    KeepsPool s (s.endLoad good) := by
  have htake := takeImage hload hgood
  have hlinks := (htake.settleIfValid.evaluateHours.startPacer.startSupervision.bringUpIfPaced .b0).bringUpIfPaced .b1
  have howed := hlinks.offerOwedIfOpened s.noticesOpen
  unfold State.endLoad
  dsimp only
  split
  · exact howed
  · exact howed.count _

theorem configurationLoadEnd (s : State) (answered : Bool) : KeepsPool s (s.configurationLoadEnd answered) := by
  unfold State.configurationLoadEnd
  split
  · rename_i hc
    obtain ⟨-, -, hload⟩ := hc
    exact endLoad hload (fun x => by simp only [Bool.and_eq_true] at x; exact x.2)
  · exact refl s

/-! ### Links and the millisecond advance (R1, R2, R15) -/

theorem linkUp (h : KeepsPool s t) (p : PortId) : KeepsPool s (t.linkUp p) := by
  unfold State.linkUp
  dsimp only
  repeat' split
  · exact (h.setPort _ _).bringUpIfPaced _
  · exact (h.setPort _ _).offerOwedIfOpened _
  · exact h.setPort _ _
  · exact h.setPort _ _
  · exact h.setPort _ _
  · exact h

theorem linkLost (h : KeepsPool s t) (p : PortId) : KeepsPool s (t.linkLost p) := by
  cases p
  case up => exact h
  case ctl => exact h.same
  case t => exact h.same
  case a => exact h.same
  case b => exact (h.setAddresses _).goOff _

theorem linkDown (h : KeepsPool s t) (p : PortId) : KeepsPool s (t.linkDown p) := by
  unfold State.linkDown
  split
  · exact ((h.setPort _ _).discardQueues p).linkLost p
  · exact h

theorem takeDue (h : KeepsPool s t) : KeepsPool s t.takeDue := by
  have hfired := h.fireDue.pacerExpiry.loadLapse.supervisionExpiry.blockTimerExpiry
  unfold State.takeDue
  exact (hfired.setAddresses _).dropPending.reachGuestTimes.transferOpen

theorem tickTimers (h : KeepsPool s t) : KeepsPool s t.tickTimers :=
  (h.setBucket (refillShaper t.settings.queue.shaperRate t.pool.bucket)).same

theorem tickPacer (h : KeepsPool s t) : KeepsPool s t.tickPacer := by
  unfold State.tickPacer
  split
  · exact h.setPacer _
  · exact h

theorem onceSuperframe (h : KeepsPool s t) : KeepsPool s t.onceSuperframe := by
  unfold State.onceSuperframe
  split
  · exact (h.setPacer _).superframeStart
  · exact h

end KeepsPool

/-! ### Every command -/

/-- No command breaks the properties of the pool or the ranges of its settings. -/
theorem exec_keepsPool (c : Instr) (s : State) : ∃ t, exec c s = .next t ∧ KeepsPool s t := by
  have h : KeepsPool s s := .refl s
  cases c with
  | powerOn straps => exact ⟨_, rfl, .powerOn s straps⟩
  | resetAssert torn => exact ⟨_, rfl, .resetAssert s torn⟩
  | pinReset straps => exact ⟨_, rfl, .pinReset s straps⟩
  | fullRestart straps torn =>
    refine ⟨_, rfl, ?_⟩
    split
    · exact .resetBlocks s _ _ _
    · exact h
  | softRestart torn =>
    refine ⟨_, rfl, ?_⟩
    split
    · exact .softRestart s torn
    · exact h
  | configurationLoadEnd answered => exact ⟨_, rfl, .configurationLoadEnd s answered⟩
  | saveEnd written => exact ⟨_, rfl, h.saveEnd written⟩
  | millisecondAdvance => exact ⟨_, rfl, (h.takeDue.setClock _).tickTimers.tickPacer.onceSuperframe⟩
  | storeOpen => exact ⟨_, rfl, h.fireDaily _⟩
  | storeClose => exact ⟨_, rfl, h.fireDaily _⟩
  | nightStart => exact ⟨_, rfl, h.fireDaily _⟩
  | nightEnd => exact ⟨_, rfl, h.fireDaily _⟩
  | cutover => exact ⟨_, rfl, h.fireCutover⟩
  | linkUp p => exact ⟨_, rfl, h.linkUp p⟩
  | linkDown p => exact ⟨_, rfl, h.linkDown p⟩
  | beaconInEdge =>
    refine ⟨_, rfl, ?_⟩
    split
    · exact h.superframeStart
    · exact h
  | frameReceived p frame => exact ⟨_, rfl, h.frameReceived p frame⟩
  | transmitStart p => exact ⟨_, rfl, h.transmitStart p⟩
  | transmitComplete p => exact ⟨_, rfl, h.transmitComplete p⟩
  | waitingBlockReoffer => exact ⟨_, rfl, h.reoffer⟩
  | addressAgeExpiry a => exact ⟨_, rfl, h.ageOut a⟩
  | signOn n => exact ⟨_, rfl, h.takeMessage _ _ (fun f _ hu => hu.takeSignOn n f)⟩
  | signOff n => exact ⟨_, rfl, h.takeMessage _ _ (fun f _ hu => hu.takeSignOff n f)⟩
  | priceQuery n => exact ⟨_, rfl, h.takeMessage _ _ (fun f _ hu => hu.takePriceQuery n f)⟩
  | saleRecord n => exact ⟨_, rfl, h.takeMessage _ _ (fun f _ hu => hu.takeSaleRecord n f)⟩
  | recoveryScanStep damaged => exact ⟨_, rfl, h.scanStep damaged⟩
  | labelReport l => exact ⟨_, rfl, h.takeMessage _ _ (fun f _ hu => hu.takeLabelReport l f)⟩
  | stationStatus l => exact ⟨_, rfl, h.takeMessage _ _ (fun f _ hu => hu.takeStationStatus l f)⟩
  | pacerExpiry => exact ⟨_, rfl, h.pacerExpiry⟩
  | linkSilence l =>
    refine ⟨_, rfl, ?_⟩
    split
    · exact h.silence l
    · exact h
  | labelDeadline index => exact ⟨_, rfl, h.deadline index⟩
  | staleScanStep l => exact ⟨_, rfl, h.staleScanStep l⟩
  | transferOpen => exact ⟨_, rfl, h.transferOpen⟩
  | transferAccept => exact ⟨_, rfl, h.takeFromOffice _ _ (fun f _ hu => hu.transferAccept f)⟩
  | blockAck => exact ⟨_, rfl, h.takeFromOffice _ _ (fun f _ hu => hu.blockAck f)⟩
  | batchOpen => exact ⟨_, rfl, h.takeFromOffice _ _ (fun f _ hu => hu.takeBatchOpen f)⟩
  | batchPart => exact ⟨_, rfl, h.takeFromOffice _ _ (fun f _ hu => hu.takeBatchPart f)⟩
  | batchClose => exact ⟨_, rfl, h.takeFromOffice _ _ (fun f _ hu => hu.takeBatchClose f)⟩
  | endAck => exact ⟨_, rfl, h.takeFromOffice _ _ (fun f _ hu => hu.endAck f)⟩
  | blockTimerExpiry => exact ⟨_, rfl, h.blockTimerExpiry⟩
  | cutoverSweepStep => exact ⟨_, rfl, h.cutoverSweepStep⟩
  | withdrawSweepStep => exact ⟨_, rfl, h.withdrawSweepStep⟩
  | closingSweepStep => exact ⟨_, rfl, h.closingSweepStep⟩
  | pendingTimeout slot => exact ⟨_, rfl, h.guestTimeout slot⟩
  | guestExpiry slot => exact ⟨_, rfl, h.guestExpiry slot⟩
  | holdUntilReached slot => exact ⟨_, rfl, h.guestHold slot⟩
  | loadTransactionLapse => exact ⟨_, rfl, h.loadLapse⟩
  | supervisionTimerExpiry => exact ⟨_, rfl, h.supervisionExpiry⟩
  | owedNotices => exact ⟨_, rfl, h.offerOwed⟩
  | readStatus src => exact ⟨_, rfl, h.takeRequest KeepsPool.serves_readStatus src _⟩
  | readCounters src => exact ⟨_, rfl, h.takeRequest KeepsPool.serves_readCounters src _⟩
  | clearEvents src => exact ⟨_, rfl, h.takeRequest KeepsPool.serves_clearEvents src _⟩
  | clearResetCauses src => exact ⟨_, rfl, h.takeRequest KeepsPool.serves_clearResetCauses src _⟩
  | setTime src => exact ⟨_, rfl, h.takeRequest KeepsPool.serves_setTime src _⟩
  | setScheduleSlot src => exact ⟨_, rfl, h.takeRequest KeepsPool.serves_setScheduleSlot src _⟩
  | setStoreMode src => exact ⟨_, rfl, h.takeRequest KeepsPool.serves_setStoreMode src _⟩
  | itemWrite src => exact ⟨_, rfl, h.takeRequest KeepsPool.serves_itemWrite src _⟩
  | itemRead src => exact ⟨_, rfl, h.takeRequest KeepsPool.serves_itemRead src _⟩
  | itemDelete src => exact ⟨_, rfl, h.takeRequest KeepsPool.serves_itemDelete src _⟩
  | priceChange src => exact ⟨_, rfl, h.takeRequest KeepsPool.serves_priceChange src _⟩
  | loadBegin src => exact ⟨_, rfl, h.takeRequest KeepsPool.serves_loadBegin src _⟩
  | loadPart src => exact ⟨_, rfl, h.takeRequest KeepsPool.serves_loadPart src _⟩
  | loadEnd src => exact ⟨_, rfl, h.takeRequest KeepsPool.serves_loadEnd src _⟩
  | labelAttach src => exact ⟨_, rfl, h.takeRequest KeepsPool.serves_labelAttach src _⟩
  | labelDetach src => exact ⟨_, rfl, h.takeRequest KeepsPool.serves_labelDetach src _⟩
  | labelRemove src => exact ⟨_, rfl, h.takeRequest KeepsPool.serves_labelRemove src _⟩
  | labelResend src => exact ⟨_, rfl, h.takeRequest KeepsPool.serves_labelResend src _⟩
  | labelRead src => exact ⟨_, rfl, h.takeRequest KeepsPool.serves_labelRead src _⟩
  | linkClear src => exact ⟨_, rfl, h.takeRequest KeepsPool.serves_linkClear src _⟩
  | beaconOnce src => exact ⟨_, rfl, h.takeRequest KeepsPool.serves_beaconOnce src _⟩
  | guestAdmit src => exact ⟨_, rfl, h.takeRequest KeepsPool.serves_guestAdmit src _⟩
  | guestEnd src => exact ⟨_, rfl, h.takeRequest KeepsPool.serves_guestEnd src _⟩
  | guestBar src => exact ⟨_, rfl, h.takeRequest KeepsPool.serves_guestBar src _⟩
  | guestUnbar src => exact ⟨_, rfl, h.takeRequest KeepsPool.serves_guestUnbar src _⟩
  | guestRead src => exact ⟨_, rfl, h.takeRequest KeepsPool.serves_guestRead src _⟩
  | zoneMatrixWrite src => exact ⟨_, rfl, h.takeRequest KeepsPool.serves_zoneMatrixWrite src _⟩
  | addressFlush src => exact ⟨_, rfl, h.takeRequest KeepsPool.serves_addressFlush src _⟩
  | queueSettingsWrite src => exact ⟨_, rfl, h.takeRequest KeepsPool.serves_queueSettingsWrite src _⟩
  | nightLinkStart src => exact ⟨_, rfl, h.takeRequest KeepsPool.serves_nightLinkStart src _⟩
  | nightLinkStop src => exact ⟨_, rfl, h.takeRequest KeepsPool.serves_nightLinkStop src _⟩
  | batchWithdraw src => exact ⟨_, rfl, h.takeRequest KeepsPool.serves_batchWithdraw src _⟩
  | cutoverNow src => exact ⟨_, rfl, h.takeRequest KeepsPool.serves_cutoverNow src _⟩
  | heartbeat src => exact ⟨_, rfl, h.takeRequest KeepsPool.serves_heartbeat src _⟩
  | saveConfiguration src => exact ⟨_, rfl, h.takeRequest KeepsPool.serves_saveConfiguration src _⟩
  | restart src => exact ⟨_, rfl, h.takeRestart src⟩
  | lossOfSupply => exact ⟨_, rfl, (KeepsPool.powerOn s s.management.strap).same⟩

/-- A step breaks nothing either. -/
theorem step_keepsPool {s t : State} (h : step s = .next t) : KeepsPool s t := by
  unfold step at h
  split at h
  · cases h
    exact .refl s
  · rename_i c cs _
    obtain ⟨u, hu, hkeeps⟩ := exec_keepsPool c (s.setPending cs)
    rw [hu] at h
    cases h
    exact KeepsPool.trans (KeepsPool.refl s).same hkeeps

/-! ### What the properties say of the cells (R33, R34) -/

theorem sub_eq_ite_lt (a b : Nat) : (if b < a then a - b else 0) = a - b := by
  split <;> omega

/-- Free and held cells make the pool, the guests keep to their cap, and the shortfalls are covered. -/
theorem cells_of_poolLegal {s : State} (h : s.PoolLegal) : s.freeCells + (allClasses.map s.heldCells).sum = 8192 ∧
    s.heldCells .guest ≤ s.settings.queue.guestCap ∧
    (if s.heldCells .till < s.settings.queue.tillReserve then s.settings.queue.tillReserve - s.heldCells .till else 0) +
    (if s.heldCells .control < s.settings.queue.controlReserve then s.settings.queue.controlReserve - s.heldCells .control
      else 0) ≤ s.freeCells := by
  obtain ⟨htotal, hcap, hshort, hheld, -⟩ := h
  have hsum : (allClasses.map s.heldCells).sum = s.pool.inUse.total := by
    rw [← total_eq_sum, List.map_congr_left hheld]
  refine ⟨?_, ?_, ?_⟩
  · rw [hsum, State.freeCells]; omega
  · rw [← hheld .guest (mem_allClasses _)]; exact hcap
  · rw [sub_eq_ite_lt, sub_eq_ite_lt, ← hheld .till (mem_allClasses _), ← hheld .control (mem_allClasses _)]
    exact hshort

/-! ### The defaults, a cap of 0 and reserves of 0 -/

theorem settings_settleSlot (s : State) (n : DailyName) : (s.settleSlot n).settings = s.settings := by
  unfold State.settleSlot
  repeat' split
  all_goals rfl

theorem settings_settleIfValid (s : State) : s.settleIfValid.settings = s.settings := by
  unfold State.settleIfValid
  split
  · simp [State.settle, dailyNames, settings_settleSlot]
  · rfl

theorem settings_evaluateHours (s : State) : s.evaluateHours.settings = s.settings := by
  unfold State.evaluateHours State.askMode
  repeat' split
  all_goals rfl

theorem settings_startPacer (s : State) : s.startPacer.settings = s.settings := by
  unfold State.startPacer
  split
  · rfl
  · rfl

theorem settings_startSupervision (s : State) : s.startSupervision.settings = s.settings := rfl

theorem settings_count (s : State) (k : EventKind) : (s.count k).settings = s.settings :=
  (spoken_settings (spoken_count s k)).trans rfl

/-- A load that ends without a Good image leaves the built-in defaults in force. -/
theorem settings_endLoad_bad (s : State) : (s.endLoad false).settings = defaultSettings := by
  have hdefaults : (s.takeImage false).settings = defaultSettings := rfl
  unfold State.endLoad
  dsimp only
  rw [if_neg (by decide), settings_count, spoken_settings (spoken_offerOwedIfOpened _ _),
    moved_settings (moved_bringUpIfPaced _ _), moved_settings (moved_bringUpIfPaced _ _), settings_startSupervision,
    settings_startPacer, settings_evaluateHours, settings_settleIfValid, hdefaults]

/-- A frame of some bytes takes a cell. -/
theorem cellsOf_pos {bytes : List Byte} (h : bytes ≠ []) : 1 ≤ cellsOf bytes.length := by
  have := List.length_pos_iff.2 h
  unfold cellsOf
  omega

/-- A Guest cap of 0 leaves no room for a Guest frame. -/
theorem roomFor_guest_of_cap_zero {s : State} (h : s.settings.queue.guestCap = 0) {n : Nat} (hn : 1 ≤ n) :
    s.roomFor .guest n = false := by
  have : ¬ s.pool.inUse.guest + n ≤ 0 := by omega
  simp [State.roomFor, h, this]

/-- A frame that finds no room is refused, as is one that no queue takes. -/
theorem admitFrame_refused {s : State} {c : OutClass} {bytes : List Byte} (h : s.roomFor c (cellsOf bytes.length) = false)
    (o : Origin) (targets : List PortId) : (s.admitFrame c o bytes targets).2.1 = .refused := by
  unfold State.admitFrame
  dsimp only
  split
  · rfl
  · split
    · rfl
    · rw [if_neg (by simp [h])]

/-- A Till reserve of 0 leaves Till to compete as Bulk does. -/
theorem roomFor_till_of_reserve_zero {s : State} (h : s.settings.queue.tillReserve = 0) (n : Nat) :
    s.roomFor .till n = s.roomFor .bulk n := by
  simp [State.roomFor, shortfallSum, PerClass.set, h]

/-- A Control reserve of 0 leaves Control to compete as Bulk does. -/
theorem roomFor_control_of_reserve_zero {s : State} (h : s.settings.queue.controlReserve = 0) (n : Nat) :
    s.roomFor .control n = s.roomFor .bulk n := by
  simp [State.roomFor, shortfallSum, PerClass.set, h]

/-- Settles O14: each command keeps the properties and the ranges, block by block; the rest reads them off. -/
theorem stepsKeepPoolLegal : Obligations.StepsKeepPoolLegal := by
  unfold Obligations.StepsKeepPoolLegal
  refine ⟨fun s t h hstep => (step_keepsPool hstep).legal h, fun s h => cells_of_poolLegal h,
    fun s t h hstep => (step_keepsPool hstep).inRange h, ?_, ?_, fun s n h => roomFor_till_of_reserve_zero h n,
    fun s n h => roomFor_control_of_reserve_zero h n⟩
  · intro s t hsup hheld hload hexec
    have ht : t = s.endLoad false := by
      have h : s.configurationLoadEnd false = t := by cases hexec; rfl
      rw [← h, State.configurationLoadEnd, if_pos ⟨hsup, hheld, hload⟩]
      rfl
    rw [ht, settings_endLoad_bad]
    exact ⟨rfl, rfl, rfl⟩
  · intro s o bytes targets hcap hbytes
    exact admitFrame_refused (roomFor_guest_of_cap_zero hcap (cellsOf_pos hbytes)) o targets

end Sys2Proof.CellPool

/-! PROOFS. The Stale Scan (R102): when it runs, and what one examination does in each of its three cases, a Stale label
with a live item at the Scan Position, any other record there, and a scan that does not run. -/

namespace Sys2Proof.StaleScan

open Sys2Proof.Machine Sys2Proof.Laws

section Examination

variable {s : State} {l l' : LinkId} {lab : Label}

/-! ### Link records and the tail of a Work Queue -/

/-- The later of two changes of one link's record stands. -/
@[simp] theorem setLink_setLink (s : State) (l : LinkId) (v w : LinkRecord) : (s.setLink l v).setLink l w = s.setLink l w := by
  cases l <;> rfl

@[simp] theorem link_putLabel (s : State) (i : Nat) (lab : Label) (l : LinkId) : (s.putLabel i lab).link l = s.link l := rfl

/-- Label records and link records change apart. -/
@[simp] theorem setLink_putLabel (s : State) (i : Nat) (lab : Label) (l : LinkId) (v : LinkRecord) :
    (s.putLabel i lab).setLink l v = (s.setLink l v).putLabel i lab := rfl

theorem queueRoom_iff : s.queueRoom l = true ↔ (s.link l).queue.length < 512 := decide_eq_true_iff

/-- Label work that finds room joins the queue's tail (R99). -/
theorem toWork_of_queueRoom (h : s.queueRoom lab.link = true) (i attempts : Nat) (counted : Bool) :
    s.toWork i lab attempts counted =
      (s.setLink lab.link { s.link lab.link with queue := (s.link lab.link).queue ++ [i] }).putLabel i
        { lab with state := .queued, attempts := attempts } := if_pos h

/-! ### When the scan runs -/

theorem staleLive_iff :
    s.staleLive l lab = true ↔ lab.link = l ∧ lab.state = .stale ∧ ∃ price, s.activeFor lab = some price := by
  simp [State.staleLive, Option.isSome_iff_exists, and_assoc]

theorem staleScanRuns_iff : s.staleScanRuns l = true ↔ (s.link l).queue.length < 512 ∧
    ∃ kv ∈ s.labels, kv.2.link = l ∧ kv.2.state = .stale ∧ ∃ price, s.activeFor kv.2 = some price := by
  simp only [State.staleScanRuns, Bool.and_eq_true, queueRoom_iff, List.any_eq_true, staleLive_iff]

theorem queueRoom_of_staleScanRuns (h : s.staleScanRuns l = true) : s.queueRoom l = true :=
  queueRoom_iff.2 (staleScanRuns_iff.1 h).1

/-! ### One examination -/

/-- The Scan Position after an examination: the next one, from 8,191 to 0. -/
def nextPosition (pos : Nat) : Nat := if pos < 8191 then pos + 1 else 0

theorem staleScanStep_of_not_runs (h : s.staleScanRuns l = false) : s.staleScanStep l = s :=
  if_neg (by simp [h])

/-- A Stale label of the link with a live item joins the tail, its Attempts kept, and the position moves on. -/
theorem staleScanStep_of_staleLive (hrun : s.staleScanRuns l = true)
    (hget : s.labels.get? (s.link l).scanPosition = some lab) (hlive : s.staleLive l lab = true) :
    s.staleScanStep l =
      (s.setLink l { s.link l with
        queue := (s.link l).queue ++ [(s.link l).scanPosition]
        scanPosition := nextPosition (s.link l).scanPosition }).putLabel (s.link l).scanPosition
          { lab with state := .queued } := by
  obtain ⟨rfl, -, -⟩ := staleLive_iff.1 hlive
  have hroom := queueRoom_of_staleScanRuns hrun
  simp [State.staleScanStep, hrun, hget, hlive, toWork_of_queueRoom hroom, link_setLink, nextPosition]

/-- Any other record, and an index without one, is passed by: the position alone moves on. -/
theorem staleScanStep_of_not_staleLive (hrun : s.staleScanRuns l = true)
    (hpass : ∀ lab, s.labels.get? (s.link l).scanPosition = some lab → s.staleLive l lab = false) :
    s.staleScanStep l = s.setLink l { s.link l with scanPosition := nextPosition (s.link l).scanPosition } := by
  cases hget : s.labels.get? (s.link l).scanPosition with
  | none => simp [State.staleScanStep, hrun, hget, nextPosition]
  | some lab => simp [State.staleScanStep, hrun, hget, hpass lab hget, nextPosition]

/-- The scan of one link leaves the other link's record. -/
theorem link_staleScanStep_of_ne (s : State) (h : l' ≠ l) : (s.staleScanStep l).link l' = s.link l' := by
  have hset (v : LinkRecord) : (s.setLink l v).link l' = s.link l' := by rw [link_setLink, if_neg h]
  by_cases hrun : s.staleScanRuns l = true
  · by_cases hlive : ∃ lab, s.labels.get? (s.link l).scanPosition = some lab ∧ s.staleLive l lab = true
    · obtain ⟨lab, hget, hlab⟩ := hlive
      rw [staleScanStep_of_staleLive hrun hget hlab]
      exact hset _
    · have hpass : ∀ lab, s.labels.get? (s.link l).scanPosition = some lab → s.staleLive l lab = false :=
        fun lab hget => Bool.eq_false_iff.2 fun hlab => hlive ⟨lab, hget, hlab⟩
      rw [staleScanStep_of_not_staleLive hrun hpass]
      exact hset _
  · rw [staleScanStep_of_not_runs (Bool.eq_false_iff.2 hrun)]

end Examination

theorem exec_staleScanStep (s : State) (l : LinkId) : exec (.staleScanStep l) s = .next (s.staleScanStep l) := rfl

/-- Settles O48: the condition spelled out, then one case of the examination for each clause. -/
theorem staleScansQueueStaleLabels : Obligations.StaleScansQueueStaleLabels := by
  unfold Obligations.StaleScansQueueStaleLabels
  refine ⟨fun s l => staleScanRuns_iff, ?otherLink, ?queues, ?passes, ?pauses⟩
  case otherLink =>
    intro s t l l' hexec hne
    obtain rfl : s.staleScanStep l = t := by simpa [exec_staleScanStep] using hexec
    exact link_staleScanStep_of_ne s hne
  case queues =>
    rintro s l _ price lab hrun rfl hget hlink hstale hprice
    have hlive : s.staleLive l lab = true := staleLive_iff.2 ⟨hlink, hstale, price, hprice⟩
    rw [exec_staleScanStep, staleScanStep_of_staleLive hrun hget hlive]
    rfl
  case passes =>
    intro s l hrun hpass
    rw [exec_staleScanStep, staleScanStep_of_not_staleLive hrun hpass]
    rfl
  case pauses =>
    intro s l hpaused
    rw [exec_staleScanStep, staleScanStep_of_not_runs hpaused]

end Sys2Proof.StaleScan
